-- ==== Sys2Proof/Word.lean ====
section
/-! DEFINITION. The number types of the Mordalis 4160 (spec 00_scope.md, Conventions and Units): the 32-bit word, the
byte, the 7-bit sequence number, the numbers of endpoints, windows, slots, blocks, lanes and selects, and a table
written from the value at each of its places. -/

namespace Sys2Proof

/-- A 32-bit word: a link word, a management word, a beat of upstream data (spec 00_scope.md, Units). -/
abbrev Word := BitVec 32

/-- A byte of a link packet, a command byte or an address byte. -/
abbrev Byte := BitVec 8

/-- A link sequence number, 0 to 127, wrapping (R128). -/
abbrev SeqNum := BitVec 7

/-- Endpoints are numbered 0 to 15. -/
abbrev EndpointId := Fin 16

/-- Windows are numbered 0 to 31. -/
abbrev WindowId := Fin 32

/-- Slots are numbered 0 to 63. -/
abbrev SlotId := Fin 64

/-- Blocks are numbered 0 to 127. -/
abbrev BlockId := Fin 128

/-- Lanes are numbered 0 to 3. -/
abbrev LaneId := Fin 4

/-- The selects of a lane are numbered 0 to 3. -/
abbrev SelectId := Fin 4

/-- The table whose place `i` holds `f i`. -/
def tabulate {α : Type} {n : Nat} (f : Fin n → α) : Vector α n :=
  ⟨⟨(List.finRange n).map f⟩, by simp⟩

/-- Reading a tabulated table at a Fin place. -/
@[simp] theorem tabulate_get {α : Type} {n : Nat} (f : Fin n → α) (i : Fin n) : (tabulate f)[i] = f i := by
  simp [tabulate]

/-- Reading a tabulated table at a Nat place. -/
@[simp] theorem tabulate_getElem {α : Type} {n : Nat} (f : Fin n → α) (k : Nat) (h : k < n) :
    (tabulate f)[k] = f ⟨k, h⟩ := by
  simp [tabulate]

end Sys2Proof
end

