-- ==== Sys2Proof/Config.lean ====
section
/-! DEFINITION. What is fixed for the part: the silicon revision the manual leaves open (R167), and the sizes and
periods the manual states as numbers. -/

namespace Sys2Proof.Config

/-- The silicon revision in the identity word: "a number from 0 to 15 that is fixed for each part and is not given in
this manual" (R167). A FREE VALUE: it has no body, so nothing rests on what it is (assumption 1). -/
opaque siliconRevision : BitVec 4

/-- The device code of the identity word (R167). -/
def deviceCode : BitVec 16 := 0x4160#16

/-- The generator polynomial of the check value (R129). -/
def crcPolynomial : Word := 0x04C11DB7#32

/-- The check register's start value (R129): all ones. -/
def crcStart : Word := 0xFFFFFFFF#32

/-- Words of the largest packet the part takes, check value included: a header word, an address word, 64 data beats
and a check value (R129). -/
def largestPacketWords : Nat := 67

/-- Places of the replay buffer (R104). -/
def replayPlaces : Nat := 16

/-- Data replies are admissible only while the replay buffer holds fewer packets than this (R104). -/
def dataReplyPlaces : Nat := 13

/-- Places of the notice queue (R111). -/
def noticePlaces : Nat := 8

/-- Places of the management reply list (R166). -/
def replyPlaces : Nat := 4

/-- The replayCount at which a further replay start fails the link (R145, R147). -/
def maxReplays : Nat := 4

/-- replayTimeout after a device reset, in 8 µs steps (R130). -/
def resetReplayTimeout : BitVec 8 := 16#8

/-- Microseconds of one replayTimeout step for the replay timer and the request timer (R131, R144). -/
def replayStep : Nat := 8

/-- Microseconds of one replayTimeout step for the refresh timer (R139). -/
def refreshStep : Nat := 4

/-- The last word index of management space (R161). -/
def lastManagementWord : Nat := 1023

end Sys2Proof.Config
end

