-- ==== Sys2Proof/Syntax.lean ====
section
/-! DEFINITION. The commands of the block: one constructor of `Instr` per row of spec/opcode_table.json, with what
reaches the part from outside as its operands (a frame on the link, the lane an event is on, the levels on input
pins). The requests a packet carries stand here too, since State queues them between the Link Port and the block that
takes them (R137). -/

namespace Sys2Proof

/-- The privilege class of a request (spec 00_scope.md, Terms). -/
inductive ReqClass where
  | normal
  | privileged
  deriving DecidableEq, Repr

/-- The direction of a MEM request. -/
inductive Direction where
  | read
  | write
  deriving DecidableEq, Repr

/-- What the physical layer delivers for one packet (R129): the bytes received, and its framing-error flag. -/
structure Frame where
  bytes : List Byte
  framingError : Bool
  deriving DecidableEq, Repr

/-- The words of a good packet from the host without its check value: the header word and what follows it (chapter
11.1). -/
structure HostPacket where
  header : Word
  rest : List Word
  deriving DecidableEq, Repr

/-- A MEM-READ or MEM-WRITE as handed on to the Request Decoder (R128, R137). -/
structure MemRequest where
  direction : Direction
  tag : Byte
  cls : ReqClass
  address : Word
  length : BitVec 8
  beats : List Word
  deriving DecidableEq, Repr

/-- A CFG-READ (`direction = read`, no data words) or CFG-WRITE as handed on to the Management Unit (R128, R137). -/
structure CfgRequest where
  direction : Direction
  tag : Byte
  cls : ReqClass
  start : BitVec 10
  length : BitVec 8
  data : List Word
  deriving DecidableEq, Repr

/-- A request that has passed the Link Port's self-consistency check. -/
inductive Request where
  | mem (m : MemRequest)
  | cfg (c : CfgRequest)
  deriving DecidableEq, Repr

/-- The commands of the block, one per row of the table, in the table's order.

The five packet arrivals carry the frame that arrived. A request taken by the Request Decoder or the Management Unit
carries no operand: what it takes is the head of the queue of packets handed on (R52, R162). A packet sent carries no
operand: the Outbound Arbiter's choice decides it (R103). A lane event names its lane. -/
inductive Instr where
  /-- R129 -/
  | badPacket (f : Frame)
  /-- R134 -/
  | sequencedPacket (f : Frame)
  /-- R142 -/
  | hostAck (f : Frame)
  /-- R143 -/
  | hostNak (f : Frame)
  /-- R132 -/
  | sync (f : Frame)
  /-- R53 -/
  | memRead
  /-- R54 -/
  | memWrite
  /-- R163 -/
  | cfgRead
  /-- R164 -/
  | cfgWrite
  /-- R123 -/
  | attentionAcknowledge
  /-- R12 -/
  | commitWindow
  /-- R15 -/
  | clearWindow
  /-- R16 -/
  | fetchWindow
  /-- R27 -/
  | enableEndpoint
  /-- R28 -/
  | disableEndpoint
  /-- R30 -/
  | abortEndpoint
  /-- R33 -/
  | resumeEndpoint
  /-- R169 -/
  | clearCounters
  /-- R170 -/
  | deviceReset
  /-- R168 -/
  | unknownCommand
  /-- R138 -/
  | ack
  /-- R135 -/
  | nak
  /-- R132 -/
  | syncAck
  /-- R131 -/
  | syncRequest
  /-- R145 -/
  | resend
  /-- R166 -/
  | cfgReply
  /-- R114 -/
  | notice
  /-- R121 -/
  | attn
  /-- R99 -/
  | readData
  /-- R100 -/
  | writeDone
  /-- R102 -/
  | transmissionEnd
  /-- R144 -/
  | replayTimerExpiry
  /-- R139 -/
  | refreshTimerExpiry
  /-- R131 -/
  | requestTimerExpiry
  /-- R89 -/
  | grant (lane : LaneId)
  /-- R68 -/
  | readySeen (lane : LaneId)
  /-- R69 -/
  | readyTimeout (lane : LaneId)
  /-- R73, R74, R80 -/
  | phaseEnd (lane : LaneId)
  /-- R76. Bit `j` of `din` is the value taken from LnDI for bit `j` of the word, counted in the order of the bit
  periods; a write takes none of them (R72). -/
  | wordComplete (lane : LaneId) (din : Word)
  /-- R78 -/
  | release (lane : LaneId)
  /-- R79 -/
  | gapEnd (lane : LaneId)
  /-- R116. Bit `n` of `levels` is the sample of input ATN`n`, 1 for high. -/
  | attentionSample (levels : BitVec 16)
  /-- R171 -/
  | resetNAssert
  /-- R171 -/
  | resetNRelease
  deriving DecidableEq, Repr

end Sys2Proof
end

