-- ==== Sys2Proof/Decode.lean ====
section
/-! DEFINITION. Reading what arrives on the link: the check value and the framing of a packet (R129), the fields of a
header word (chapter 11.1, R174, R175), and the request a self-consistent packet carries (R136). Below it, the fixed
name `decodeTableWord`: no row of spec/opcode_table.json gives bits, so no word spells a command. -/

namespace Sys2Proof

/-! ### The check value (R129) -/

/-- One bit of the check register: shift left, and subtract the generator when the top bit leaves. -/
def crcBit (c : Word) : Word :=
  if c.msb then (c <<< 1) ^^^ Config.crcPolynomial else c <<< 1

/-- One byte through the check register, its bit 7 first (R129): no reflection. -/
def crcByte (c : Word) (b : Byte) : Word :=
  (List.range 8).foldl (fun c _ => crcBit c) (c ^^^ (b.setWidth 32 <<< 24))

/-- The check value of a packet: computed over the bytes of every word before it, in the order they are sent, from a
register of all ones, with no final inversion (R129). -/
def checkValue (bytes : List Byte) : Word := bytes.foldl crcByte Config.crcStart

/-! ### Words and bytes: each word is sent most significant byte first (chapter 11) -/

/-- The four bytes of a word in the order they are sent. -/
def bytesOfWord (w : Word) : List Byte :=
  [w.extractLsb' 24 8, w.extractLsb' 16 8, w.extractLsb' 8 8, w.extractLsb' 0 8]

/-- The bytes of a list of words in the order they are sent. -/
def bytesOfWords : List Word → List Byte
  | [] => []
  | w :: ws => bytesOfWord w ++ bytesOfWords ws

/-- The word that four bytes carry, the first the most significant. -/
def wordOfBytes (a b c d : Byte) : Word := a ++ b ++ c ++ d

/-- The words a list of bytes carries; none when the bytes end inside a word (assumption 4). -/
def wordsOfBytes : List Byte → Option (List Word)
  | [] => some []
  | a :: b :: c :: d :: t => (wordsOfBytes t).map (wordOfBytes a b c d :: ·)
  | _ => none

/-- The bytes of a packet as the part sends it: its words and then the check value over them (R129). -/
def frameBytes (ws : List Word) : List Byte :=
  bytesOfWords ws ++ bytesOfWord (checkValue (bytesOfWords ws))

/-- The frame in which these words arrive undamaged. -/
def Frame.ofWords (ws : List Word) : Frame := ⟨frameBytes ws, false⟩

/-- Of the words of a frame, the packet that stands before the check value: none when there is no whole header word
and check value, or when the value carried is not the value computed (R129). -/
def packetOfWords (ws : List Word) : Option HostPacket :=
  match ws with
  | [] => none
  | h :: t =>
    match t.getLast? with
    | none => none
    | some c => if checkValue (bytesOfWords (h :: t.dropLast)) = c then some ⟨h, t.dropLast⟩ else none

/-- The good packet a frame holds, or none when the frame is bad (R129): the framing-error flag is set, the packet
ends before a whole header word and check value, it runs past the largest packet the part takes, or its check value is
wrong. -/
def Frame.packet? (f : Frame) : Option HostPacket :=
  if f.framingError then none
  else
    match wordsOfBytes f.bytes with
    | none => none
    | some ws => if ws.length ≤ Config.largestPacketWords then packetOfWords ws else none

/-! ### Header fields (chapter 11.1) -/

namespace HostPacket

/-- Bits 31:28. -/
def kindCode (p : HostPacket) : BitVec 4 := p.header.extractLsb' 28 4

/-- Bits 27:21: the sequence number of a sequenced packet, `next` of an ACK or NAK. -/
def seq (p : HostPacket) : SeqNum := p.header.extractLsb' 21 7

/-- Bit 20: 1 PRIVILEGED. -/
def cls (p : HostPacket) : ReqClass := if p.header.getLsbD 20 then .privileged else .normal

/-- Bits 15:8. -/
def tag (p : HostPacket) : Byte := p.header.extractLsb' 8 8

/-- Bits 7:0, read whole (R174). -/
def length (p : HostPacket) : BitVec 8 := p.header.extractLsb' 0 8

end HostPacket

/-- What an arriving frame is (R128, R129): bad, one of the host's three control packets, or a packet treated as
sequenced, which every other kind code is, named or not. -/
inductive Arrival where
  | bad
  | sequenced (p : HostPacket)
  | ack (p : HostPacket)
  | nak (p : HostPacket)
  | sync (p : HostPacket)
  deriving DecidableEq, Repr

/-- Sorting an arriving frame (R128, R129; kind codes of chapter 11.1). -/
def Frame.arrival (f : Frame) : Arrival :=
  match f.packet? with
  | none => .bad
  | some p =>
    if p.kindCode = 0x8#4 then .ack p
    else if p.kindCode = 0x9#4 then .nak p
    else if p.kindCode = 0xA#4 then .sync p
    else .sequenced p

/-- A MEM length that lies inside 1 to 64. -/
def memLengthOk (length : BitVec 8) : Bool := decide (1 ≤ length.toNat ∧ length.toNat ≤ 64)

/-- A CFG length that lies inside 1 to 16. -/
def cfgLengthOk (length : BitVec 8) : Bool := decide (1 ≤ length.toNat ∧ length.toNat ≤ 16)

/-- A MEM packet's request when it is self-consistent (R136). The reserved header bits 19:16 are not read (R174). -/
def HostPacket.memRequest? (p : HostPacket) (d : Direction) : Option Request :=
  match p.rest with
  | [] => none
  | address :: payload =>
    let consistent : Bool :=
      match d with
      | .read => decide (payload = [])
      | .write => if memLengthOk p.length then decide (payload.length = p.length.toNat) else decide (payload = [])
    if consistent then some (.mem ⟨d, p.tag, p.cls, address, p.length, payload⟩) else none

/-- A CFG packet's request when it is self-consistent (R136). The start index is bits 9:0 of word 1; bits 31:10 are
reserved and not read (R174). -/
def HostPacket.cfgRequest? (p : HostPacket) (d : Direction) : Option Request :=
  match p.rest with
  | [] => none
  | word1 :: payload =>
    let consistent : Bool :=
      match d with
      | .read => cfgLengthOk p.length && decide (payload = [])
      | .write => cfgLengthOk p.length && decide (payload.length = p.length.toNat)
    if consistent then some (.cfg ⟨d, p.tag, p.cls, word1.extractLsb' 0 10, p.length, payload⟩) else none

/-- The request of a sequenced packet, or none when the packet is not self-consistent and so malformed (R136). A kind
code that names no host-to-part request is never self-consistent. -/
def HostPacket.request? (p : HostPacket) : Option Request :=
  if p.kindCode = 0x1#4 then p.memRequest? .read
  else if p.kindCode = 0x2#4 then p.memRequest? .write
  else if p.kindCode = 0x3#4 then p.cfgRequest? .read
  else if p.kindCode = 0x4#4 then p.cfgRequest? .write
  else none

/-- A host ACK or NAK is well formed when it is one header word whose bits other than kind and next are 0 (R175). -/
def HostPacket.ackWellFormed (p : HostPacket) : Bool :=
  decide (p.rest = []) && decide (p.header.extractLsb' 0 21 = 0#21)

/-- A SYNC is well formed when it is one header word whose bits other than kind are 0 (R175). -/
def HostPacket.syncWellFormed (p : HostPacket) : Bool :=
  decide (p.rest = []) && decide (p.header.extractLsb' 0 28 = 0#28)

/-! ### The table's words -/

/-- The command a word of the table's bits spells. No row of spec/opcode_table.json gives bits, so no word spells
one. -/
def decodeTableWord (_nbits _w : Nat) : Option Instr := none

end Sys2Proof
end

