-- ==== Sys2Proof/Machine/State.lean ====
section
/-! DEFINITION. The state of the part: every table, list, record, counter and pin the manual names, as plain data, and
the queue of commands that wait; the reasons a command can stop; the machine right after reset. -/

namespace Sys2Proof.Machine

/-! ### Address windows (chapter 1) -/

/-- The translation kind of a window (R1). -/
inductive WindowKind where
  | register
  | block
  | stream
  deriving DecidableEq, Repr

/-- A window entry (R1). `none` in `readCmd` or `writeCmd` is "absent". -/
structure WindowEntry where
  valid : Bool
  base : Word
  sizeLog : BitVec 5
  kind : WindowKind
  endpoint : EndpointId
  readAllowed : Bool
  writeAllowed : Bool
  privilegedOnly : Bool
  posted : Bool
  readCmd : Option Byte
  writeCmd : Option Byte
  addrWidth : BitVec 3
  addrBase : Word
  dummy : BitVec 4
  deriving DecidableEq, Repr

/-- A window entry after a device reset (R1). -/
def WindowEntry.reset : WindowEntry :=
  { valid := false, base := 0, sizeLog := 0, kind := .register, endpoint := 0, readAllowed := false,
    writeAllowed := false, privilegedOnly := false, posted := false, readCmd := none, writeCmd := none,
    addrWidth := 0, addrBase := 0, dummy := 0 }

/-! ### Endpoints (chapter 2) -/

/-- The endpoint state (R19). -/
inductive EpState where
  | disabled
  | active
  | draining
  | halted
  | stopping
  deriving DecidableEq, Repr

/-- bitOrder (R19). -/
inductive BitOrder where
  | msbFirst
  | lsbFirst
  deriving DecidableEq, Repr

/-- readyMode (R19). -/
inductive ReadyMode where
  | none
  | wait
  deriving DecidableEq, Repr

/-- attnSense (R19, R117). -/
inductive AttnSense where
  | levelHigh
  | levelLow
  | rising
  | falling
  deriving DecidableEq, Repr

/-- haltCause (R19). -/
inductive HaltCause where
  | none
  | readyTimeout
  deriving DecidableEq, Repr

/-- An endpoint descriptor (R19). The read-only field `outstanding` is kept equal to the number of the endpoint's
slots in its two lists (R21, R49): it is read as `State.outstanding` and not held twice. `attnInput = none` is the
value NONE. -/
structure Descriptor where
  state : EpState
  lane : LaneId
  select : SelectId
  clockDiv : BitVec 8
  clockMode : BitVec 2
  bitOrder : BitOrder
  wordSize : BitVec 6
  sampleDelay : BitVec 4
  readyMode : ReadyMode
  gapBits : BitVec 8
  readyTimeout : BitVec 12
  maxOutstanding : BitVec 5
  fillWord : Word
  attnInput : Option (Fin 16)
  attnSense : AttnSense
  drainAfterResume : Bool
  haltCause : HaltCause
  transactionsDone : Word
  deriving DecidableEq, Repr

/-- Descriptor `e` after a device reset: lane e div 4, select e mod 4 (R19). -/
def Descriptor.reset (e : EndpointId) : Descriptor :=
  { state := .disabled, lane := ⟨e.val / 4, by omega⟩, select := ⟨e.val % 4, by omega⟩, clockDiv := 10#8,
    clockMode := 0#2, bitOrder := .msbFirst, wordSize := 8#6, sampleDelay := 0#4, readyMode := .none,
    gapBits := 2#8, readyTimeout := 1000#12, maxOutstanding := 4#5, fillWord := 0, attnInput := none,
    attnSense := .levelHigh, drainAfterResume := false, haltCause := .none, transactionsDone := 0 }

/-! ### Slots (chapter 3) -/

/-- The state of a slot (R39, R40). -/
inductive SlotState where
  | free
  | queued
  | active
  | complete
  deriving DecidableEq, Repr

/-- The completion statuses of a MEM request (R98). -/
inductive MemStatus where
  | ok
  | align
  | unmapped
  | denied
  | epDisabled
  | epHalted
  | busy
  | timeout
  | aborted
  deriving DecidableEq, Repr

/-- The translation snapshot (R5). The first value is computed without wrapping, so it is a number. -/
structure Snapshot where
  window : WindowId
  kind : WindowKind
  endpoint : EndpointId
  cmd : Option Byte
  addrWidth : BitVec 3
  firstValue : Nat
  dummy : BitVec 4
  deriving DecidableEq, Repr

/-- The slot record (R39). `status = none` is NONE; `translation = none` is "absent". -/
structure Slot where
  state : SlotState
  tag : Byte
  cls : ReqClass
  direction : Direction
  posted : Bool
  length : BitVec 8
  beatsDone : Nat
  blocks : List BlockId
  translation : Option Snapshot
  status : Option MemStatus
  deriving DecidableEq, Repr

/-- A slot after a device reset (R39). -/
def Slot.reset : Slot :=
  { state := .free, tag := 0, cls := .normal, direction := .read, posted := false, length := 0, beatsDone := 0,
    blocks := [], translation := none, status := none }

/-! ### Lane engines (chapters 4 and 5) -/

/-- The engine states (R65). -/
inductive EngineState where
  | idle
  | waitReady
  | shifting
  | gap
  deriving DecidableEq, Repr

/-- The parts of SHIFTING (R65, R73). -/
inductive Phase where
  | lead
  | command
  | address
  | dummy
  | data
  | trail
  deriving DecidableEq, Repr

/-- Whether the transaction in hand is being cut, and by what (R65). -/
inductive Cut where
  | none
  | abort
  | link
  deriving DecidableEq, Repr

/-- The lane engine's record (R65), with the arbiter's pointer `nextSelect` (R87) and the lane's output pins.

`selects` holds the levels of LnSEL0 to LnSEL3, active low (R66, R86). LnCLK stands at `idleLevel` (true for high)
between bit periods. Five fields are the MODEL's own. `unitOut` is the levels LnDO takes over the bit periods of the
byte, word or dummy bit period in hand, latched when it begins (R75); `laneOut` is the levels LnDO has taken in the
clocking bit periods completed since the last grant, oldest first (assumption 6). `between` says that one unit is
complete, or the part before it, and the next unit has not begun (R80, assumption 10). `late` says of the transaction
that it is a read whose last input of a word is taken after that word's bit periods, latched at the grant;
`completing` is the number of the word whose bit periods are over and whose last input is still to be taken (R72,
R73, assumption 11). -/
structure Engine where
  engineState : EngineState
  currentEndpoint : Option EndpointId
  currentSlot : Option SlotId
  beatIndex : Nat
  value : Word
  phase : Option Phase
  unitCount : Nat
  wordsLeft : Nat
  fill : Word
  div : BitVec 8
  readyTimer : Option (BitVec 12)
  gapTimer : Option (BitVec 8)
  cut : Cut
  idleLevel : Bool
  nextSelect : SelectId
  selects : BitVec 4
  unitOut : List Bool
  laneOut : List Bool
  between : Bool
  late : Bool
  completing : Option Nat
  deriving DecidableEq, Repr

/-- The engine, the arbiter's pointer and the lane's pins after a device reset (R65, R85, R87). -/
def Engine.reset : Engine :=
  { engineState := .idle, currentEndpoint := none, currentSlot := none, beatIndex := 0, value := 0, phase := none,
    unitCount := 0, wordsLeft := 0, fill := 0, div := 10#8, readyTimer := none, gapTimer := none, cut := .none,
    idleLevel := false, nextSelect := 0, selects := 0xF#4, unitOut := [], laneOut := [], between := false,
    late := false, completing := none }

/-! ### Attention records (chapter 7) -/

/-- The state of an attention record (R115). -/
inductive AttnState where
  | idle
  | pending
  | sent
  deriving DecidableEq, Repr

/-- An attention record (R115). -/
structure AttnRecord where
  state : AttnState
  fence : Option SlotId
  repeats : BitVec 8
  deriving DecidableEq, Repr

/-- The record in IDLE: fence absent and repeats 0 (R115). -/
def AttnRecord.idle : AttnRecord := ⟨.idle, none, 0⟩

/-! ### Management (chapters 6 and 10) -/

/-- The statuses of a CFG-REPLY (R165, chapter 11.1). -/
inductive CfgStatus where
  | ok
  | denied
  | range
  | locked
  | overlap
  | conflict
  | state
  | unknown
  deriving DecidableEq, Repr

/-- An entry of the management reply list (R165, R166). -/
structure CfgReply where
  tag : Byte
  status : CfgStatus
  offset : Option (BitVec 4)
  data : List Word
  deriving DecidableEq, Repr

/-- The last-command record (R168). -/
structure LastCommand where
  code : Byte
  index : Byte
  status : CfgStatus
  deriving DecidableEq, Repr

/-- The causes of a notice (R112). -/
inductive NoticeCause where
  | postedFail
  | creditOverrun
  | malformed
  deriving DecidableEq, Repr

/-- The three kinds of credit (R152). -/
inductive CreditKind where
  | request
  | data
  | management
  deriving DecidableEq, Repr

/-- A notice (R111). -/
structure Notice where
  cause : NoticeCause
  endpoint : Option EndpointId
  tag : Option Byte
  status : Option MemStatus
  beatsDone : Option Nat
  creditKind : Option CreditKind
  more : Bool
  deriving DecidableEq, Repr

/-! ### The Transfer Link (chapter 8) and credits (chapter 9) -/

/-- The link state (R130). -/
inductive LinkState where
  | down
  | up
  deriving DecidableEq, Repr

/-- Why the link last went DOWN (R130). -/
inductive DownCause where
  | deviceReset
  | linkFailure
  deriving DecidableEq, Repr

/-- The contents of a sequenced packet the part sends, besides its sequence number (R128). -/
inductive SeqBody where
  | readData (tag : Byte) (status : MemStatus) (beats : List Word)
  | writeDone (tag : Byte) (status : MemStatus) (beatsDone : Nat)
  | cfgReply (r : CfgReply)
  | attn (endpoint : EndpointId) (repeats : BitVec 8)
  | notice (n : Notice)
  deriving DecidableEq, Repr

/-- A sequenced packet as the replay buffer keeps it (R141). -/
structure SeqPacket where
  seq : SeqNum
  body : SeqBody
  deriving DecidableEq, Repr

/-- The three cumulative credit totals as a control packet carries them (R128, R158). -/
structure Totals where
  req : BitVec 8
  data : BitVec 8
  mgmt : BitVec 8
  deriving DecidableEq, Repr

/-- A packet the part sends (R128). -/
inductive OutPacket where
  | sequenced (p : SeqPacket)
  | ack (next : SeqNum) (totals : Totals)
  | nak (next : SeqNum)
  | syncAck (totals : Totals)
  | syncRequest (cause : DownCause)
  deriving DecidableEq, Repr

/-- The transmitter of TLTX: FREE, or SENDING with the packet in transmission (R102). -/
inductive Transmitter where
  | free
  | sending (p : OutPacket)
  deriving DecidableEq, Repr

/-- The control packets due and not yet chosen (R130): a set of four. -/
structure DueControl where
  syncAck : Bool
  nak : Bool
  ack : Bool
  syncRequest : Bool
  deriving DecidableEq, Repr

/-- The five link counters, each 0 to 65535 (R150). -/
structure Counters where
  checkErrors : BitVec 16
  sequenceErrors : BitVec 16
  replays : BitVec 16
  creditOverruns : BitVec 16
  malformed : BitVec 16
  deriving DecidableEq, Repr

/-- Every counter 0. -/
def Counters.zero : Counters := ⟨0, 0, 0, 0, 0⟩

/-- The Link Port's record (R130). A timer is stopped (`none`) or running; a running timer holds the microseconds it
was last started with (assumption 5). `ackRefresh` is the MODEL's own: a refresh expiry is among the reasons the due
ACK stands (R138, R140; assumption 7). -/
structure LinkPort where
  linkState : LinkState
  downCause : DownCause
  expectedSeq : SeqNum
  ackPending : Bool
  nakSent : Bool
  outboundNext : SeqNum
  replayBuffer : List SeqPacket
  replayInProgress : Bool
  replayPointer : SeqNum
  replayCount : Nat
  replayTimer : Option Nat
  refreshTimer : Option Nat
  requestTimer : Option Nat
  reportedTotals : Totals
  due : DueControl
  ackRefresh : Bool
  replayTimeout : BitVec 8
  counters : Counters
  deriving DecidableEq, Repr

/-- The Link Port's record after a device reset (R130, R149). -/
def LinkPort.reset : LinkPort :=
  { linkState := .down, downCause := .deviceReset, expectedSeq := 0, ackPending := false, nakSent := false,
    outboundNext := 0, replayBuffer := [], replayInProgress := false, replayPointer := 0, replayCount := 0,
    replayTimer := none, refreshTimer := none, requestTimer := some 128, reportedTotals := ⟨0, 0, 0⟩,
    due := ⟨false, false, false, true⟩, ackRefresh := false, replayTimeout := Config.resetReplayTimeout,
    counters := .zero }

/-- One kind of credit: its granted total, wrapping modulo 256, and its available count (R152). -/
structure CreditCount where
  total : BitVec 8
  available : Nat
  deriving DecidableEq, Repr

/-- The credit state (R152). -/
structure Credits where
  request : CreditCount
  data : CreditCount
  management : CreditCount
  deriving DecidableEq, Repr

/-- After a device reset every total and every available count is 0 (R152). -/
def Credits.reset : Credits := ⟨⟨0, 0⟩, ⟨0, 0⟩, ⟨0, 0⟩⟩

/-- The initial grants a SYNC sets: 64 request, 128 data and 4 management (R132, R152). -/
def Credits.initial : Credits := ⟨⟨64, 64⟩, ⟨128, 128⟩, ⟨4, 4⟩⟩

/-! ### The state -/

/-- The state of the part. `pending` is the queue of commands that wait; every other field is the manual's. -/
structure State where
  /-- Commands that wait, oldest first; the model's own. -/
  pending : List Instr
  /-- RESET_N is low: the part is held in device reset (R171). -/
  resetHeld : Bool
  /-- The Window Table (R1). -/
  windows : Vector WindowEntry 32
  /-- The staging record, as its eight words (R2, R177). -/
  staging : Vector Word 8
  /-- The Endpoint Table (R19). -/
  endpoints : Vector Descriptor 16
  /-- The Slot Table (R39). The free pool is the set of its slots in state FREE (R44). -/
  slots : Vector Slot 64
  /-- The endpoint queues, head first (R45). -/
  queues : Vector (List SlotId) 16
  /-- The completion lists, head first (R47). -/
  completions : Vector (List SlotId) 16
  /-- The immediate list, head first (R48). -/
  immediate : List SlotId
  /-- The Block Pool: 128 blocks of 8 beats (R50, R51). -/
  pool : Vector (Vector Word 8) 128
  /-- The free set of block numbers, in rising order (R50). -/
  freeBlocks : List BlockId
  /-- The lane engines with their arbiters and pins (R65, R87). -/
  engines : Vector Engine 4
  /-- The attention records (R115). -/
  attn : Vector AttnRecord 16
  /-- The latest sample of ATN0 to ATN15; none until the first sample after a device reset (R116). -/
  lastSample : Option (BitVec 16)
  /-- MEM packets handed on and not yet taken, oldest first (R52, R137). -/
  memHanded : List MemRequest
  /-- CFG packets handed on and not yet taken, oldest first (R137, R162). -/
  cfgHanded : List CfgRequest
  /-- The management reply list, oldest first (R166). -/
  replies : List CfgReply
  /-- The notice queue, oldest first (R111). -/
  notices : List Notice
  /-- The last-command record (R168). -/
  lastCommand : LastCommand
  /-- The Outbound Arbiter's transmitter (R102). -/
  transmitter : Transmitter
  /-- The Outbound Arbiter's round-robin pointer (R102). -/
  nextCompletion : EndpointId
  /-- The Link Port's record (R130). -/
  link : LinkPort
  /-- The credit totals and available counts (R152). -/
  credits : Credits
  deriving DecidableEq, Repr

/-- Every block number, in rising order: the free set after a reset (R50, R63, R64). -/
def allBlocks : List BlockId := List.finRange 128

/-- The machine right after reset, RESET_N high (R171): every field at the value its rule gives. The contents of the
blocks, for which the manual gives none, are zero (assumption 3). -/
def State.reset : State :=
  { pending := []
    resetHeld := false
    windows := Vector.replicate 32 .reset
    staging := Vector.replicate 8 0
    endpoints := tabulate Descriptor.reset
    slots := Vector.replicate 64 .reset
    queues := Vector.replicate 16 []
    completions := Vector.replicate 16 []
    immediate := []
    pool := Vector.replicate 128 (Vector.replicate 8 0)
    freeBlocks := allBlocks
    engines := Vector.replicate 4 .reset
    attn := Vector.replicate 16 .idle
    lastSample := none
    memHanded := []
    cfgHanded := []
    replies := []
    notices := []
    lastCommand := ⟨0, 0, .ok⟩
    transmitter := .free
    nextCompletion := 0
    link := .reset
    credits := .reset }

/-- Why a command stops the machine. Each is a case the manual says does not occur (R52, R157, R166): a state that
breaks the credit laws. No state a run from reset reaches raises one. -/
inductive Fault where
  /-- Raised by the Request Decoder taking a request when no slot is free: R52 says it always finds one. Safe: the
  machine stops where the manual gives no effect. -/
  | noFreeSlot
  /-- Raised by the Request Decoder accepting a request when too few blocks are free: R52 says it always finds them.
  Safe, as above. -/
  | noFreeBlock
  /-- Raised by the Management Unit taking a request when the management reply list already holds four entries: R157
  and R166 say it always finds a place. Safe, as above. -/
  | noReplyPlace
  deriving DecidableEq, Repr

/-- Why a command is refused. -/
inductive Refusal where
  /-- Raised by `exec` for a command that has no meaning in the model yet; no arm raises it. Safe. -/
  | notModelled (mnemonic : String)
  deriving DecidableEq, Repr

end Sys2Proof.Machine
end

