-- ==== Sys2Proof/Machine/Flags.lean ====
section
/-! DEFINITION. The part's flags: the link counters and when they count, the control packets that become due and what
makes them due, the sense conditions of an attention input, the saturating repeats count. -/

namespace Sys2Proof.Machine

/-- A link counter after one increment: at 65535 it stays (R150). -/
def countUp (c : BitVec 16) : BitVec 16 := if c = 0xFFFF#16 then c else c + 1

/-- A repeats count after one increment: at 255 it stays (R122). -/
def repeatsUp (r : BitVec 8) : BitVec 8 := if r = 0xFF#8 then r else r + 1

namespace LinkPort

/-- checkErrors after a bad packet (R129, R150). -/
def countCheckError (k : LinkPort) : LinkPort :=
  { k with counters := { k.counters with checkErrors := countUp k.counters.checkErrors } }

/-- sequenceErrors after a packet ahead of E (R134, R150). -/
def countSequenceError (k : LinkPort) : LinkPort :=
  { k with counters := { k.counters with sequenceErrors := countUp k.counters.sequenceErrors } }

/-- replays after a replay start (R145, R150). -/
def countReplay (k : LinkPort) : LinkPort :=
  { k with counters := { k.counters with replays := countUp k.counters.replays } }

/-- creditOverruns after an overrun (R154, R150). -/
def countOverrun (k : LinkPort) : LinkPort :=
  { k with counters := { k.counters with creditOverruns := countUp k.counters.creditOverruns } }

/-- malformed after a malformed packet (R136, R150). -/
def countMalformed (k : LinkPort) : LinkPort :=
  { k with counters := { k.counters with malformed := countUp k.counters.malformed } }

/-- An ACK is made due; one already due is not made due a second time (R138). -/
def makeAckDue (k : LinkPort) : LinkPort := { k with due := { k.due with ack := true } }

/-- A packet is to be acknowledged: ackPending becomes yes, which makes an ACK due (R134, R138). -/
def noteAckPending (k : LinkPort) : LinkPort := { k with ackPending := true }.makeAckDue

/-- A bad or ahead packet, while UP, makes a NAK due when nakSent is no, and nakSent becomes yes (R134, R135). -/
def noteGap (k : LinkPort) : LinkPort :=
  if k.nakSent then k else { k with nakSent := true, due := { k.due with nak := true } }

/-- A packet accepted in sequence: E advances, ackPending becomes yes, nakSent becomes no, and a NAK due and not yet
chosen is withdrawn (R134, R135). -/
def accept (k : LinkPort) : LinkPort :=
  { k with expectedSeq := k.expectedSeq + 1, nakSent := false, due := { k.due with nak := false } }.noteAckPending

/-- The Link Port has a control packet due (R103, candidate 1). -/
def controlDue (k : LinkPort) : Bool := k.due.syncAck || k.due.nak || k.due.ack || k.due.syncRequest

end LinkPort

/-- The sense is a level sense (R117). -/
def AttnSense.isLevel : AttnSense → Bool
  | .levelHigh => true
  | .levelLow => true
  | .rising => false
  | .falling => false

/-- A level sense's condition on the level of its input, true for high (R117). An edge sense has none. -/
def AttnSense.levelHolds : AttnSense → Bool → Bool
  | .levelHigh, level => level
  | .levelLow, level => !level
  | .rising, _ => false
  | .falling, _ => false

/-- An edge sense's condition on two samples of its input that follow each other (R116, R117). A level sense has
none. -/
def AttnSense.edgeHolds : AttnSense → Bool → Bool → Bool
  | .rising, before, now => !before && now
  | .falling, before, now => before && !now
  | .levelHigh, _, _ => false
  | .levelLow, _, _ => false

end Sys2Proof.Machine
end

