-- ==== Sys2Proof/Machine/Operands.lean ====
section
/-! DEFINITION. The operands of the commands: what a CFG request names, where a beat of a request lies in the Block
Pool (R7), and the bits a byte or a word puts on LnDO or takes from LnDI (R74 to R77). -/

namespace Sys2Proof.Machine

/-! ### What a MEM request needs (R50, R52, R153) -/

/-- N divided by 8, rounded up: the blocks that N beats need (R50). -/
def blocksFor (beats : Nat) : Nat := (beats + 7) / 8

/-- The data credits a MEM packet needs: its blocks when its length is 1 to 64, and none otherwise (R52, R153). -/
def dataCreditsFor (length : BitVec 8) : Nat := if memLengthOk length then blocksFor length.toNat else 0

/-! ### What a CFG request names (R164, R168; chapter 11.2) -/

/-- Word index of the command word (R161). -/
def commandWord : Nat := 0x008

/-- Word index of the attention acknowledge word (R161). -/
def acknowledgeWord : Nat := 0x00C

/-- Word index of the control word (R161). -/
def controlWord : Nat := 0x004

end Sys2Proof.Machine

namespace Sys2Proof.CfgRequest

/-- The first word written; 0 for a request without data. -/
def word0 (r : CfgRequest) : Word := r.data.headD 0

/-- A CFG-WRITE of length 1 to word `k`. -/
def isSingleWrite (r : CfgRequest) (k : Nat) : Bool :=
  decide (r.direction = .write) && decide (r.length = 1#8) && decide (r.start.toNat = k)

/-- The command code written: bits 31:24 (chapter 11.2). -/
def commandCode (r : CfgRequest) : Byte := r.word0.extractLsb' 24 8

/-- The index written: bits 7:0, read whole (R176). -/
def commandIndex (r : CfgRequest) : Byte := r.word0.extractLsb' 0 8

/-- The set of endpoints an acknowledge write names: bit e names endpoint e (chapter 11.2). -/
def names (r : CfgRequest) (e : EndpointId) : Bool := r.word0.getLsbD e.val

/-- The write performs a command or an acknowledgement: it passes the checks of R164 and stands alone at the command
word or the acknowledge word. -/
def performs (r : CfgRequest) : Bool :=
  decide (r.cls = .privileged) && (r.isSingleWrite Machine.commandWord || r.isSingleWrite Machine.acknowledgeWord)

end Sys2Proof.CfgRequest

namespace Sys2Proof.Machine

/-- The command codes (chapter 11.2). -/
def codeCommitWindow : Byte := 0x01#8
def codeClearWindow : Byte := 0x02#8
def codeFetchWindow : Byte := 0x03#8
def codeEnableEndpoint : Byte := 0x10#8
def codeDisableEndpoint : Byte := 0x11#8
def codeAbortEndpoint : Byte := 0x12#8
def codeResumeEndpoint : Byte := 0x13#8
def codeClearCounters : Byte := 0x20#8
def codeDeviceReset : Byte := 0x5A#8

/-- The nine codes that name a command (R168, R176). -/
def commandCodes : List Byte :=
  [codeCommitWindow, codeClearWindow, codeFetchWindow, codeEnableEndpoint, codeDisableEndpoint, codeAbortEndpoint,
    codeResumeEndpoint, codeClearCounters, codeDeviceReset]

/-! ### Beats (R7, R51) -/

/-- The store of the Block Pool: 128 blocks of 8 beats (R50). -/
abbrev Pool := Vector (Vector Word 8) 128

/-- The position of beat `k` in its block: k mod 8 (R7). -/
def beatPlace (k : Nat) : Fin 8 := ⟨k % 8, by omega⟩

/-- Beat `k` of a request whose block list is `bl`: at position k mod 8 of block k div 8 of the list (R7, R51). -/
def readBeat (bl : List BlockId) (k : Nat) (pool : Pool) : Word :=
  match bl[k / 8]? with
  | some b => pool[b][beatPlace k]
  | none => 0

/-- Writing beat `k` of a request whose block list is `bl` (R7, R51). -/
def writeBeat (bl : List BlockId) (k : Nat) (w : Word) (pool : Pool) : Pool :=
  match bl[k / 8]? with
  | some b => pool.set b (pool[b].set (beatPlace k) w)
  | none => pool

/-- Writing the beats of a list from beat `k` on (R51). -/
def writeBeats (bl : List BlockId) : Nat → List Word → Pool → Pool
  | _, [], pool => pool
  | k, w :: ws, pool => writeBeats bl (k + 1) ws (writeBeat bl k w pool)

/-- Beats 0 to n − 1 of a request (R99). -/
def readBeats (bl : List BlockId) (n : Nat) (pool : Pool) : List Word :=
  (List.range n).map fun k => readBeat bl k pool

/-! ### Bits on a lane (R74) -/

/-- The least significant `n` bits of `w` in the order they go onto LnDO: MSB_FIRST from bit n − 1 down, LSB_FIRST
from bit 0 up (R74). -/
def bitsOut (order : BitOrder) (n : Nat) (w : Word) : List Bool :=
  match order with
  | .msbFirst => (List.range n).map fun j => w.getLsbD (n - 1 - j)
  | .lsbFirst => (List.range n).map fun j => w.getLsbD j

/-- The word assembled from the inputs of `n` bits, bit `j` of `din` being the input of the j-th bit period; the bits
above it are zero (R74, R76). -/
def bitsIn (order : BitOrder) (n : Nat) (din : Word) : Word :=
  match order with
  | .lsbFirst => din &&& BitVec.ofNat 32 (2 ^ n - 1)
  | .msbFirst => (List.range n).foldl (fun acc j => (acc <<< 1) ||| (if din.getLsbD j then 1 else 0)) 0

/-- Byte `k` of the address phase, counted in the order sent: the most significant of the low `width` bytes of the
value goes first, whatever the bit order (R7, R74). -/
def addressByte (value : Word) (width k : Nat) : Word := (value >>> (8 * (width - 1 - k))) &&& 0xFF#32

end Sys2Proof.Machine
end

