-- ==== Sys2Proof/Machine/Ops.lean ====
section
/-! DEFINITION. The operations the commands share, each said once: changing one record of one table; freeing slots and
granting credits (R42, R155); creating notices (R113); ending slots (R60, R61); an endpoint entering DISABLED (R125);
releasing a lane, reporting and cutting (R78 to R83); the two resets (R148, R171); starting a replay and failing the
link (R145, R147); taking attentions (R118); placing a reply (R166) and entering the replay buffer (R105, R141). -/

namespace Sys2Proof.Machine

/-! ### Changing one record -/

/-- Window entry `w` becomes `x`. -/
def State.setWindow (s : State) (w : WindowId) (x : WindowEntry) : State := { s with windows := s.windows.set w x }

/-- Descriptor `e` becomes `d`. -/
def State.setDescriptor (s : State) (e : EndpointId) (d : Descriptor) : State :=
  { s with endpoints := s.endpoints.set e d }

/-- Slot `i` becomes `x`. -/
def State.setSlot (s : State) (i : SlotId) (x : Slot) : State := { s with slots := s.slots.set i x }

/-- The queue of endpoint `e` becomes `q`. -/
def State.setQueue (s : State) (e : EndpointId) (q : List SlotId) : State := { s with queues := s.queues.set e q }

/-- The completion list of endpoint `e` becomes `q`. -/
def State.setCompletion (s : State) (e : EndpointId) (q : List SlotId) : State :=
  { s with completions := s.completions.set e q }

/-- The engine of lane `l` becomes `g`. -/
def State.setEngine (s : State) (l : LaneId) (g : Engine) : State := { s with engines := s.engines.set l g }

/-- The attention record of endpoint `e` becomes `r`. -/
def State.setAttn (s : State) (e : EndpointId) (r : AttnRecord) : State := { s with attn := s.attn.set e r }

/-- The Link Port's record becomes `k`. -/
def State.setLink (s : State) (k : LinkPort) : State := { s with link := k }

/-- The state of endpoint `e` becomes `x`. -/
def State.setEpState (s : State) (e : EndpointId) (x : EpState) : State :=
  s.setDescriptor e { s.endpoints[e] with state := x }

/-- An endpoint's outstanding count: its slots in its queue and its completion list together (R21, R49). -/
def State.outstanding (s : State) (e : EndpointId) : Nat := s.queues[e].length + s.completions[e].length

/-- The lowest-numbered slot in the free pool (R44). -/
def State.lowestFreeSlot (s : State) : Option SlotId :=
  (List.finRange 64).find? fun i => decide (s.slots[i].state = .free)

/-! ### Credits (R152, R155, R158) -/

/-- The three granted totals as they stand (R158). -/
def State.totals (s : State) : Totals := ⟨s.credits.request.total, s.credits.data.total, s.credits.management.total⟩

/-- A grant of `n` credits: added to the total, modulo 256, and to the available count (R155). -/
def CreditCount.grant (c : CreditCount) (n : Nat) : CreditCount :=
  ⟨c.total + BitVec.ofNat 8 n, c.available + n⟩

/-- A consumption of `n` credits: the available count falls, the total stays (R153). -/
def CreditCount.consume (c : CreditCount) (n : Nat) : CreditCount := { c with available := c.available - n }

/-- A changed total makes an ACK due while the link is UP (R138, R158). -/
def State.noteTotals (s : State) : State :=
  if s.link.linkState = .up ∧ s.totals ≠ s.link.reportedTotals then s.setLink s.link.makeAckDue else s

/-- Granting request, data and management credits in one step (R155, R156). -/
def State.grantCredits (s : State) (request data management : Nat) : State :=
  { s with credits :=
      { request := s.credits.request.grant request, data := s.credits.data.grant data,
        management := s.credits.management.grant management } }.noteTotals

/-! ### Notices (R112, R113) -/

/-- The newest notice of a list marked as having more behind it. -/
def markMore : List Notice → List Notice
  | [] => []
  | [n] => [{ n with more := true }]
  | n :: t => n :: markMore t

/-- Creating a notice: appended while the queue holds fewer than 8, otherwise lost behind the tail's more flag (R113). -/
def State.addNotice (s : State) (n : Notice) : State :=
  if s.notices.length < Config.noticePlaces then { s with notices := s.notices ++ [n] }
  else { s with notices := markMore s.notices }

/-- A POSTED_FAIL notice (R112). -/
def Notice.postedFail (e : EndpointId) (tag : Byte) (status : MemStatus) (beatsDone : Nat) : Notice :=
  ⟨.postedFail, some e, some tag, some status, some beatsDone, none, false⟩

/-- A CREDIT_OVERRUN notice; it carries the tag for a MEM packet (R112, R154). -/
def Notice.creditOverrun (kind : CreditKind) (tag : Option Byte) : Notice :=
  ⟨.creditOverrun, none, tag, none, none, some kind, false⟩

/-- A MALFORMED notice, with no optional fields (R112, R136). -/
def Notice.malformed : Notice := ⟨.malformed, none, none, none, none, none, false⟩

/-- Discarding a malformed packet: the counter increments and a MALFORMED notice is created (R136). -/
def State.noteMalformed (s : State) : State := (s.setLink s.link.countMalformed).addNotice .malformed

/-! ### Slots and blocks (R42, R50) -/

/-- Returning a block to the free set, which stands in rising order (R50). -/
def insertBlock (b : BlockId) : List BlockId → List BlockId
  | [] => [b]
  | c :: t => if b < c then b :: c :: t else if b = c then c :: t else c :: insertBlock b t

/-- A slot's record after freeing: FREE, no blocks, no translation, its other fields kept (R42). -/
def Slot.freed (sl : Slot) : Slot := { sl with state := .free, blocks := [], translation := none }

/-- Freeing a slot: it joins the free pool and its blocks return to the free set (R42). The lists it stood in are
changed by the caller. -/
def State.freeSlot (s : State) (i : SlotId) : State :=
  { s.setSlot i s.slots[i].freed with freeBlocks := s.slots[i].blocks.foldr insertBlock s.freeBlocks }

/-- A request of endpoint `e` ends: slot `i` leaves the endpoint queue with its status. A non-posted slot becomes
COMPLETE at the tail of the completion list. A posted slot queues a POSTED_FAIL notice unless it ended OK, and is freed
with its credits granted (R60, R61). A status already set is kept (R41). -/
def State.endSlot (s : State) (e : EndpointId) (i : SlotId) (status : MemStatus) : State :=
  let sl := s.slots[i]
  let st := sl.status.getD status
  let s1 := (s.setSlot i { sl with status := some st }).setQueue e (s.queues[e].erase i)
  if sl.posted then
    let s2 := if st = .ok then s1 else s1.addNotice (.postedFail e sl.tag st sl.beatsDone)
    (s2.freeSlot i).grantCredits 1 sl.blocks.length 0
  else
    (s1.setSlot i { sl with status := some st, state := .complete }).setCompletion e (s.completions[e] ++ [i])

/-- Every slot in the queue of endpoint `e` ends ABORTED, head first (R29, R30, R36, R61). -/
def State.abortQueue (s : State) (e : EndpointId) : State :=
  s.queues[e].foldl (fun t i => t.endSlot e i .aborted) s

/-! ### The head's work (R46) -/

/-- Some engine is inside a transaction: WAIT_READY or SHIFTING (R30). -/
def Engine.inTransaction (g : Engine) : Bool :=
  decide (g.engineState = .waitReady) || decide (g.engineState = .shifting)

/-- The engine of the descriptor's lane is inside a transaction for endpoint `e` (R28, R30). -/
def insideFor (engines : Vector Engine 4) (d : Descriptor) (e : EndpointId) : Bool :=
  engines[d.lane].inTransaction && decide (engines[d.lane].currentEndpoint = some e)

/-- The lane engine of e's lane is inside a transaction for e (R28, R30). -/
def State.inside (s : State) (e : EndpointId) : Bool := insideFor s.engines s.endpoints[e] e

/-- A transaction of slot `i` is in flight on lane `l` (R46). -/
def State.slotInFlight (s : State) (l : LaneId) (i : SlotId) : Bool :=
  s.engines[l].inTransaction && decide (s.engines[l].currentSlot = some i)

/-- The transactions of a slot not yet started (R46). A slot without a translation has none. -/
def State.transactionsLeft (s : State) (l : LaneId) (i : SlotId) : Nat :=
  let sl := s.slots[i]
  match sl.translation with
  | none => 0
  | some t =>
    match t.kind with
    | .register => sl.length.toNat - sl.beatsDone - (if s.slotInFlight l i then 1 else 0)
    | .block => if sl.state = .queued then 1 else 0
    | .stream => if sl.state = .queued then 1 else 0

/-- The head of endpoint e's queue has work left: it is QUEUED or ACTIVE, its status is NONE, and it has a transaction
not yet started (R46). -/
def State.workLeft (s : State) (e : EndpointId) : Bool :=
  match s.queues[e].head? with
  | none => false
  | some i =>
    (decide (s.slots[i].state = .queued) || decide (s.slots[i].state = .active)) &&
      decide (s.slots[i].status = none) && decide (0 < s.transactionsLeft s.endpoints[e].lane i)

/-! ### Endpoint state (R34, R36, R125) -/

/-- Endpoint e enters DISABLED: its attention record becomes IDLE with no fence and repeats 0 (R26, R125). -/
def State.enterDisabled (s : State) (e : EndpointId) : State := (s.setEpState e .disabled).setAttn e .idle

/-- A DRAINING endpoint whose queue is empty becomes DISABLED (R34). -/
def State.drainIfEmpty (s : State) (e : EndpointId) : State :=
  if s.endpoints[e].state = .draining ∧ s.queues[e] = [] then s.enterDisabled e else s

/-- drainAfterResume of endpoint e becomes no (R21). -/
def State.clearDrainAfterResume (s : State) (e : EndpointId) : State :=
  s.setDescriptor e { s.endpoints[e] with drainAfterResume := false }

/-- The release that ends STOPPING, and the same ending when no transaction is in hand: every slot of the queue ends
ABORTED in queue order and the endpoint becomes DISABLED (R29, R30, R36). -/
def State.stopEndpoint (s : State) (e : EndpointId) : State :=
  ((s.abortQueue e).clearDrainAfterResume e).enterDisabled e

/-! ### Release, report and cut (R78 to R83) -/

/-- All four selects of a lane released, which is high (R66). -/
def selectsReleased : BitVec 4 := 0xF#4

/-- The select levels with select `k` asserted: low (R67; Pins, active low). -/
def selectAsserted (k : SelectId) : BitVec 4 := ~~~(1#4 <<< k.val)

/-- An engine after it releases its select: in GAP, the gap timer at `gapBits`, no slot, no phase, no unit and no cut in
hand; currentEndpoint is kept until the gap ends (R69, R78, R79, R80). -/
def Engine.released (g : Engine) (gapBits : BitVec 8) : Engine :=
  { g with engineState := .gap, selects := selectsReleased, readyTimer := none, gapTimer := some gapBits,
           currentSlot := none, phase := none, cut := .none, unitOut := [], between := false, completing := none }

/-- The gapBits of an engine's current endpoint, read at the moment GAP is entered (R20, R79). -/
def State.gapBitsOf (s : State) (g : Engine) : BitVec 8 :=
  match g.currentEndpoint with
  | some e => s.endpoints[e].gapBits
  | none => 0

/-- The head is a REGISTER request with beats still to do (R59). -/
def Slot.moreBeats (sl : Slot) : Bool :=
  match sl.translation with
  | some t => decide (t.kind = .register) && decide (sl.beatsDone < sl.length.toNat)
  | none => false

/-- The report of a transaction that was not cut: transactionsDone advances; the head stays ACTIVE when it is a
REGISTER head with beats left, and otherwise ends OK, after which R34 applies (R22, R59, R60, R78 case 1). -/
def State.reportUncut (s : State) (e : EndpointId) (slot : Option SlotId) : State :=
  let s1 := s.setDescriptor e
    { s.endpoints[e] with transactionsDone := s.endpoints[e].transactionsDone + 1 }
  match slot with
  | none => s1
  | some i => if s.slots[i].moreBeats then s1 else (s1.endSlot e i .ok).drainIfEmpty e

/-- The report of a transaction cut by a link reset: no cut slot ends; a STOPPING endpoint's slots end and it becomes
DISABLED, a DRAINING endpoint with an empty queue becomes DISABLED (R37, R78 case 3). -/
def State.reportLinkCut (s : State) (e : EndpointId) : State :=
  match s.endpoints[e].state with
  | .stopping => s.stopEndpoint e
  | .draining => s.drainIfEmpty e
  | .disabled => s
  | .active => s
  | .halted => s

/-- The report an engine makes at its release (R78). -/
def State.report (s : State) (g : Engine) : State :=
  match g.currentEndpoint with
  | none => s
  | some e =>
    match g.cut with
    | .none => s.reportUncut e g.currentSlot
    | .abort => s.stopEndpoint e
    | .link => s.reportLinkCut e

/-- The engine of lane `l` releases its select, enters GAP and reports (R78, R79). -/
def State.finishTransaction (s : State) (l : LaneId) : State :=
  let g := s.engines[l]
  (s.setEngine l (g.released (s.gapBitsOf g))).report g

/-- The part is shifted in units: bytes or words. A bit period of DUMMY is none (R74). -/
def Phase.hasUnits : Phase → Bool
  | .lead => false
  | .command => true
  | .address => true
  | .dummy => false
  | .data => true
  | .trail => false

/-- An engine before the next unit of part `p`, none in flight; in DUMMY, which has no units, in its next bit period, with
LnDO low (R73, R74, R80). -/
def Engine.beforeUnit (g : Engine) (p : Phase) : Engine :=
  { g with between := p.hasUnits, unitOut := if p = .dummy then [false] else [] }

/-- An engine at the start of part `p`: unitCount 0 (R73). -/
def Engine.enterPart (g : Engine) (p : Phase) : Engine := { g with phase := some p, unitCount := 0 }.beforeUnit p

/-- An engine at the start of TRAIL (R73). A read word whose last input is still to be taken stays `completing` (R72). -/
def Engine.enterTrail (g : Engine) : Engine := g.enterPart .trail

/-- A cut in COMMAND, ADDRESS, DATA or TRAIL: the unit in flight is finished first, TRAIL runs to its end, and between
two units, when none is in flight, TRAIL begins at once (R80). -/
def Engine.cutAfterUnit (g : Engine) : Engine := if g.between then g.enterTrail else g

/-- A cut by ABORT-ENDPOINT of the transaction in hand on lane `l` (R80). In WAIT_READY and LEAD the select is released
at once and the report made; DUMMY stops and TRAIL begins; in COMMAND, ADDRESS and DATA the unit in flight is finished
first, and between two units TRAIL begins at once; TRAIL runs to its end. A cut by a link reset already in hand stays
LINK (R83). -/
def State.cutByAbort (s : State) (l : LaneId) : State :=
  let g := s.engines[l]
  if g.cut = .link then s
  else
    let cutting : Engine := { g with cut := .abort }
    match g.engineState, g.phase with
    | .waitReady, _ => (s.setEngine l cutting).finishTransaction l
    | .shifting, some .lead => (s.setEngine l cutting).finishTransaction l
    | .shifting, some .dummy => s.setEngine l cutting.enterTrail
    | .shifting, _ => s.setEngine l cutting.cutAfterUnit
    | .idle, _ => s
    | .gap, _ => s

/-- The engine's side of a cut by a link reset, by the same cases: the slot has been freed, so none is in hand (R80,
R81, R83). -/
def Engine.cutByLinkReset (g : Engine) (gapBits : BitVec 8) : Engine :=
  let cutting : Engine := { g with cut := .link, currentSlot := none }
  match g.engineState, g.phase with
  | .waitReady, _ => g.released gapBits
  | .shifting, some .lead => g.released gapBits
  | .shifting, some .dummy => cutting.enterTrail
  | .shifting, _ => cutting.cutAfterUnit
  | .idle, _ => g
  | .gap, _ => g

/-! ### Resets (R37, R63, R126, R148, R171) -/

/-- A descriptor through a link reset, given the engines before and after their cuts (R37, R78 case 3): DRAINING
becomes DISABLED unless the engine still finishes a transaction for it; STOPPING becomes DISABLED when its select was
released at once. Everything else is kept. -/
def Descriptor.linkReset (d : Descriptor) (e : EndpointId) (before after : Vector Engine 4) : Descriptor :=
  match d.state with
  | .draining => if insideFor after d e then d else { d with state := .disabled }
  | .stopping =>
    if insideFor before d e && !insideFor after d e then { d with state := .disabled, drainAfterResume := false } else d
  | .disabled => d
  | .active => d
  | .halted => d

/-- An attention record through a link reset: SENT becomes PENDING, every fence becomes absent, repeats is kept; the
record of an endpoint that is DISABLED is IDLE (R125, R126). -/
def AttnRecord.linkReset (r : AttnRecord) (d : Descriptor) : AttnRecord :=
  if d.state = .disabled then .idle
  else
    match r.state with
    | .sent => { r with state := .pending, fence := none }
    | .pending => { r with fence := none }
    | .idle => { r with fence := none }

/-- A link reset: every slot freed without a reply or a grant, every list and hand-on queue emptied, every transaction
in hand cut, endpoint states and attention records as R37 and R126 give, a replay in progress abandoned. Windows,
staging, notices, counters, replayTimeout, nextSelect and nextCompletion are kept (R63, R109, R148). -/
def State.linkReset (s : State) : State :=
  let engines := tabulate fun l => s.engines[l].cutByLinkReset (s.gapBitsOf s.engines[l])
  let endpoints := tabulate fun e => s.endpoints[e].linkReset e s.engines engines
  { s with
    slots := tabulate fun i => s.slots[i].freed
    freeBlocks := allBlocks
    queues := Vector.replicate 16 []
    completions := Vector.replicate 16 []
    immediate := []
    engines := engines
    endpoints := endpoints
    attn := tabulate fun e => s.attn[e].linkReset endpoints[e]
    memHanded := []
    cfgHanded := []
    replies := []
    link := { s.link with replayInProgress := false } }

/-- A device reset: every piece of state at its device-reset value (R171), but for the contents of the blocks, for
which the manual gives none and says they are not cleared (R50, assumption 3), and the commands that wait. -/
def State.deviceReset (s : State) : State := { State.reset with pending := s.pending, pool := s.pool }

/-! ### Replay and link failure (R141 to R147) -/

/-- The replay timer's period in microseconds (R144). -/
def LinkPort.replayPeriod (k : LinkPort) : Nat := k.replayTimeout.toNat * Config.replayStep

/-- The refresh timer's period in microseconds (R139). -/
def LinkPort.refreshPeriod (k : LinkPort) : Nat := k.replayTimeout.toNat * Config.refreshStep

/-- The replay buffer's oldest sequence number; outboundNext when it is empty (R141). -/
def LinkPort.oldestSeq (k : LinkPort) : SeqNum :=
  match k.replayBuffer with
  | [] => k.outboundNext
  | p :: _ => p.seq

/-- The packet of the replay buffer with sequence number replayPointer (R145). -/
def LinkPort.replayPacket (k : LinkPort) : Option SeqPacket :=
  k.replayBuffer.find? fun p => decide (p.seq = k.replayPointer)

/-- The Link Port's record after a link failure (R147). -/
def LinkPort.failed (k : LinkPort) : LinkPort :=
  { k with linkState := .down, downCause := .linkFailure, replayInProgress := false, replayCount := 0,
           replayTimer := none, refreshTimer := none, ackPending := false, nakSent := false, ackRefresh := false,
           due := ⟨false, false, false, true⟩, requestTimer := some k.replayPeriod }

/-- A link failure: a link reset, the link DOWN with cause LINK_FAILURE, the replay buffer kept, and a SYNC-REQUEST due
(R147). -/
def State.linkFailure (s : State) : State :=
  let s1 := s.linkReset
  s1.setLink s1.link.failed

/-- The Link Port's record after a replay start that does not fail the link (R145). -/
def LinkPort.replayStarted (k : LinkPort) : LinkPort :=
  { k.countReplay with replayCount := k.replayCount + 1, replayInProgress := true, replayPointer := k.oldestSeq,
                       replayTimer := some k.replayPeriod }

/-- Starting a replay: at a replayCount of 4 the link fails instead (R145, R146, R147). -/
def State.startReplay (s : State) : State :=
  if Config.maxReplays ≤ s.link.replayCount then s.linkFailure else s.setLink s.link.replayStarted

/-! ### Attentions (R118, R120) -/

/-- Taking an attention for endpoint e: PENDING, repeats 0, the fence at the tail of its completion list (R118). -/
def State.takenRecord (s : State) (e : EndpointId) : AttnRecord := ⟨.pending, s.completions[e].getLast?, 0⟩

/-- Endpoint e watches an input whose latest sample meets its level sense (R117, R118). -/
def State.levelHolds (s : State) (e : EndpointId) : Bool :=
  match s.endpoints[e].attnInput, s.lastSample with
  | some n, some levels => s.endpoints[e].attnSense.levelHolds (levels.getLsbD n.val)
  | _, _ => false

/-- A level sense judged at once, when one of the other conditions of R118 has become true: at ENABLE-ENDPOINT, at a
write of attnInput or attnSense, and when an acknowledgement makes the record IDLE. -/
def State.judgeLevel (s : State) (e : EndpointId) : State :=
  if s.endpoints[e].state ≠ .disabled ∧ s.attn[e].state = .idle ∧ s.levelHolds e = true then
    s.setAttn e (s.takenRecord e)
  else s

/-- The reply of slot `i` has entered the replay buffer from a completion list: every PENDING record whose fence names
it has its fence made absent (R120). -/
def State.clearFences (s : State) (i : SlotId) : State :=
  { s with attn := tabulate fun e =>
      if s.attn[e].state = .pending ∧ s.attn[e].fence = some i then { s.attn[e] with fence := none } else s.attn[e] }

/-! ### Sending (R102, R105, R141) and replying (R166) -/

/-- A packet chosen: the transmitter is SENDING it (R102, R103). -/
def State.transmit (s : State) (p : OutPacket) : State := { s with transmitter := .sending p }

/-- A new sequenced packet takes outboundNext, enters the tail of the replay buffer and starts replayTimer if the
buffer was empty; transmission begins (R105, R141, R144). -/
def State.enterReplayBuffer (s : State) (body : SeqBody) : State :=
  let k := s.link
  let p : SeqPacket := ⟨k.outboundNext, body⟩
  (s.setLink { k with
    replayBuffer := k.replayBuffer ++ [p]
    outboundNext := k.outboundNext + 1
    replayTimer := if k.replayBuffer = [] then some k.replayPeriod else k.replayTimer }).transmit (.sequenced p)

/-- A CFG-REPLY appended at the tail of the management reply list (R162, R166). -/
def State.addReply (s : State) (r : CfgReply) : State := { s with replies := s.replies ++ [r] }

/-- The management reply list has a place for one more entry (R166). -/
def State.replyPlace (s : State) : Bool := decide (s.replies.length < Config.replyPlaces)

end Sys2Proof.Machine
end

