-- ==== Sys2Proof/Machine/Formats.lean ====
section
/-! DEFINITION. The layouts of chapter 11: the words of every packet the part sends (11.1), the management words as
read (11.2 to 11.5), the staging record read as a candidate window entry (R177), and a descriptor word as judged and
as written (R24, R178). -/

namespace Sys2Proof.Machine

/-- The value `v` in a field of `width` bits whose lowest bit is `at_`. -/
def fieldAt (at_ width v : Nat) : Word := BitVec.ofNat 32 ((v % 2 ^ width) * 2 ^ at_)

/-- A flag bit. -/
def flagAt (at_ : Nat) (b : Bool) : Word := fieldAt at_ 1 b.toNat

/-! ### Codes (chapter 11.1) -/

/-- MEM status codes. -/
def MemStatus.code : MemStatus → Nat
  | .ok => 0
  | .align => 1
  | .unmapped => 2
  | .denied => 3
  | .epDisabled => 4
  | .epHalted => 5
  | .busy => 6
  | .timeout => 7
  | .aborted => 8

/-- CFG status codes. -/
def CfgStatus.code : CfgStatus → Nat
  | .ok => 0
  | .denied => 1
  | .range => 2
  | .locked => 3
  | .overlap => 4
  | .conflict => 5
  | .state => 6
  | .unknown => 7

/-- Notice cause codes. -/
def NoticeCause.code : NoticeCause → Nat
  | .postedFail => 1
  | .creditOverrun => 2
  | .malformed => 3

/-- Credit kind codes. -/
def CreditKind.code : CreditKind → Nat
  | .request => 1
  | .data => 2
  | .management => 3

/-- SYNC-REQUEST cause codes. -/
def DownCause.code : DownCause → Nat
  | .deviceReset => 0
  | .linkFailure => 1

/-! ### Packets as sent (chapter 11.1) -/

/-- The three totals in word 1 of an ACK or SYNC-ACK. -/
def Totals.word (t : Totals) : Word :=
  fieldAt 16 8 t.req.toNat ||| fieldAt 8 8 t.data.toNat ||| fieldAt 0 8 t.mgmt.toNat

/-- An optional field: its value in place when present, 0 when absent (chapter 11.1). -/
def optAt (at_ width : Nat) (v : Option Nat) : Word := fieldAt at_ width (v.getD 0)

/-- The words of a sequenced packet: kind 31:28, sequence number 27:21, then as its kind lays out. -/
def SeqPacket.words (p : SeqPacket) : List Word :=
  let header (kind : Nat) (low : Word) : Word := fieldAt 28 4 kind ||| fieldAt 21 7 p.seq.toNat ||| low
  match p.body with
  | .readData tag status beats =>
    header 0x5 (fieldAt 16 4 status.code ||| fieldAt 8 8 tag.toNat ||| fieldAt 0 8 beats.length) :: beats
  | .writeDone tag status beatsDone =>
    [header 0x6 (fieldAt 16 4 status.code ||| fieldAt 8 8 tag.toNat ||| fieldAt 0 8 beatsDone)]
  | .cfgReply r =>
    header 0x7 (fieldAt 16 4 r.status.code ||| fieldAt 8 8 r.tag.toNat ||| fieldAt 0 8 r.data.length) ::
      (flagAt 31 r.offset.isSome ||| optAt 0 4 (r.offset.map BitVec.toNat)) :: r.data
  | .attn e repeats => [header 0xB (fieldAt 8 4 e.val ||| fieldAt 0 8 repeats.toNat)]
  | .notice n =>
    [header 0xC (fieldAt 18 2 n.cause.code ||| flagAt 17 n.more ||| flagAt 16 n.endpoint.isSome |||
        flagAt 15 n.tag.isSome ||| flagAt 14 n.status.isSome ||| flagAt 13 n.beatsDone.isSome |||
        flagAt 12 n.creditKind.isSome),
      optAt 28 4 (n.endpoint.map Fin.val) ||| optAt 26 2 (n.creditKind.map CreditKind.code) |||
        optAt 20 4 (n.status.map MemStatus.code) ||| optAt 8 8 (n.tag.map BitVec.toNat) ||| optAt 0 8 n.beatsDone]

/-- The words of a packet the part sends, without its check value (chapter 11.1). -/
def OutPacket.words : OutPacket → List Word
  | .sequenced p => p.words
  | .ack next totals => [fieldAt 28 4 0x8 ||| fieldAt 21 7 next.toNat, totals.word]
  | .nak next => [fieldAt 28 4 0x9 ||| fieldAt 21 7 next.toNat]
  | .syncAck totals => [fieldAt 28 4 0xE, totals.word]
  | .syncRequest cause => [fieldAt 28 4 0xF ||| fieldAt 0 1 cause.code]

/-- The bytes on TLTX for a packet: its words and the check value, each word most significant byte first (R129). -/
def OutPacket.bytes (p : OutPacket) : List Byte := frameBytes p.words

/-- What TLTX carries: the bytes of the packet in transmission, nothing when the transmitter is FREE (R102). -/
def State.tltx (s : State) : List Byte :=
  match s.transmitter with
  | .free => []
  | .sending p => p.bytes

/-! ### Window entry words and the staging record (chapter 11.3) -/

/-- Kind codes of a window. -/
def WindowKind.code : WindowKind → Nat
  | .register => 0
  | .block => 1
  | .stream => 2

/-- The kind a code names; code 3 names none (R177). -/
def windowKindOfCode (c : BitVec 2) : Option WindowKind :=
  if c = 0 then some .register else if c = 1 then some .block else if c = 2 then some .stream else none

/-- Word `k` of a window entry as read (R1, R177): only its fields, every other bit 0. -/
def WindowEntry.word (x : WindowEntry) (k : Nat) : Word :=
  match k with
  | 0 => x.base
  | 1 => flagAt 31 x.valid ||| fieldAt 16 8 x.endpoint.val ||| fieldAt 8 2 x.kind.code ||| fieldAt 0 5 x.sizeLog.toNat
  | 2 => flagAt 3 x.posted ||| flagAt 2 x.privilegedOnly ||| flagAt 1 x.writeAllowed ||| flagAt 0 x.readAllowed
  | 3 => flagAt 24 x.writeCmd.isSome ||| optAt 16 8 (x.writeCmd.map BitVec.toNat) ||| flagAt 8 x.readCmd.isSome |||
      optAt 0 8 (x.readCmd.map BitVec.toNat)
  | 4 => fieldAt 8 4 x.dummy.toNat ||| fieldAt 0 3 x.addrWidth.toNat
  | 5 => x.addrBase
  | _ => 0

/-- The fields of the staging record, each any value its bits can encode (R2, R177). -/
structure StagedFields where
  base : Word
  sizeLog : BitVec 5
  kindCode : BitVec 2
  endpoint : BitVec 8
  readAllowed : Bool
  writeAllowed : Bool
  privilegedOnly : Bool
  posted : Bool
  readCmd : Option Byte
  writeCmd : Option Byte
  addrWidth : BitVec 3
  addrBase : Word
  dummy : BitVec 4
  deriving DecidableEq, Repr

/-- Reading the field bits of the eight staging words, and no other bit (R177). -/
def stagedFields (w : Vector Word 8) : StagedFields :=
  { base := w[0]
    sizeLog := w[1].extractLsb' 0 5
    kindCode := w[1].extractLsb' 8 2
    endpoint := w[1].extractLsb' 16 8
    readAllowed := w[2].getLsbD 0
    writeAllowed := w[2].getLsbD 1
    privilegedOnly := w[2].getLsbD 2
    posted := w[2].getLsbD 3
    readCmd := if w[3].getLsbD 8 then some (w[3].extractLsb' 0 8) else none
    writeCmd := if w[3].getLsbD 24 then some (w[3].extractLsb' 16 8) else none
    addrWidth := w[4].extractLsb' 0 3
    addrBase := w[5]
    dummy := w[4].extractLsb' 8 4 }

/-! ### Descriptor words (chapter 11.4) -/

/-- Endpoint state codes. -/
def EpState.code : EpState → Nat
  | .disabled => 0
  | .active => 1
  | .draining => 2
  | .halted => 3
  | .stopping => 4

/-- attnSense codes. -/
def AttnSense.code : AttnSense → Nat
  | .levelHigh => 0
  | .levelLow => 1
  | .rising => 2
  | .falling => 3

/-- The sense a code names; all four codes name one. -/
def attnSenseOfCode (c : BitVec 2) : AttnSense :=
  if c = 0 then .levelHigh else if c = 1 then .levelLow else if c = 2 then .rising else .falling

/-- Word `k` of endpoint e's descriptor as read (R23, chapter 11.4); words that hold no field read as 0. -/
def State.descriptorWord (s : State) (e : EndpointId) (k : Nat) : Word :=
  let d := s.endpoints[e]
  match k with
  | 0 => fieldAt 0 3 d.state.code ||| flagAt 8 (decide (d.haltCause = .readyTimeout)) ||| flagAt 9 d.drainAfterResume |||
      fieldAt 16 5 (s.outstanding e)
  | 1 => d.transactionsDone
  | 2 => fieldAt 0 2 d.lane.val ||| fieldAt 4 2 d.select.val ||| fieldAt 8 2 d.clockMode.toNat |||
      fieldAt 12 2 (decide (d.bitOrder = .lsbFirst)).toNat ||| fieldAt 14 2 (decide (d.readyMode = .wait)).toNat |||
      fieldAt 16 6 d.wordSize.toNat ||| fieldAt 24 4 d.sampleDelay.toNat
  | 3 => fieldAt 0 8 d.clockDiv.toNat
  | 4 => fieldAt 0 8 d.gapBits.toNat ||| fieldAt 8 5 d.maxOutstanding.toNat ||| fieldAt 16 12 d.readyTimeout.toNat
  | 5 => d.fillWord
  | 6 => fieldAt 0 5 (d.attnInput.elim 31 Fin.val) ||| fieldAt 8 2 d.attnSense.code
  | _ => 0

/-- The values written to word 2 lie in their ranges: bitOrder and readyMode codes 0 or 1, wordSize 4 to 32 (R178). -/
def word2InRange (v : Word) : Bool :=
  decide ((v.extractLsb' 12 2).toNat ≤ 1) && decide ((v.extractLsb' 14 2).toNat ≤ 1) &&
    decide (4 ≤ (v.extractLsb' 16 6).toNat) && decide ((v.extractLsb' 16 6).toNat ≤ 32)

/-- The value written to word 3 lies in its range: clockDiv at least 2 (R178). -/
def word3InRange (v : Word) : Bool := decide (2 ≤ (v.extractLsb' 0 8).toNat)

/-- The values written to word 4 lie in their ranges: gapBits and readyTimeout not 0, maxOutstanding 1 to 16 (R178). -/
def word4InRange (v : Word) : Bool :=
  decide (v.extractLsb' 0 8 ≠ 0) && decide (1 ≤ (v.extractLsb' 8 5).toNat) &&
    decide ((v.extractLsb' 8 5).toNat ≤ 16) && decide (v.extractLsb' 16 12 ≠ 0)

/-- The values written to word 6 lie in their ranges: attnInput 0 to 15, or 31 for NONE (R178). -/
def word6InRange (v : Word) : Bool :=
  decide ((v.extractLsb' 0 5).toNat ≤ 15) || decide ((v.extractLsb' 0 5).toNat = 31)

/-- A word that fails its range check gives RANGE. -/
def rangeUnless (ok : Bool) : Option CfgStatus := if ok then none else some .range

/-- Judging a write of word `k` of a descriptor (R24): the lock check first, then that the word holds a field a write
may change, then the ranges. `none` is a pass. -/
def Descriptor.judgeWord (d : Descriptor) (k : Nat) (v : Word) : Option CfgStatus :=
  match k with
  | 2 => if d.state ≠ .disabled then some .locked else rangeUnless (word2InRange v)
  | 3 => if d.state ≠ .disabled then some .locked else rangeUnless (word3InRange v)
  | 4 => rangeUnless (word4InRange v)
  | 5 => none
  | 6 => rangeUnless (word6InRange v)
  | _ => some .range

/-- attnInput from its five bits: 0 to 15 the input, any other code NONE (only 31 passes the check). -/
def attnInputOfCode (c : BitVec 5) : Option (Fin 16) := if h : c.toNat < 16 then some ⟨c.toNat, h⟩ else none

/-- A descriptor after word `k` is written with `v`; bits outside the fields are ignored (R178). -/
def Descriptor.writeWord (d : Descriptor) (k : Nat) (v : Word) : Descriptor :=
  match k with
  | 2 => { d with
      lane := (v.extractLsb' 0 2).toFin
      select := (v.extractLsb' 4 2).toFin
      clockMode := v.extractLsb' 8 2
      bitOrder := if v.extractLsb' 12 2 = 0 then .msbFirst else .lsbFirst
      readyMode := if v.extractLsb' 14 2 = 0 then .none else .wait
      wordSize := v.extractLsb' 16 6
      sampleDelay := v.extractLsb' 24 4 }
  | 3 => { d with clockDiv := v.extractLsb' 0 8 }
  | 4 => { d with
      gapBits := v.extractLsb' 0 8
      maxOutstanding := v.extractLsb' 8 5
      readyTimeout := v.extractLsb' 16 12 }
  | 5 => { d with fillWord := v }
  | 6 => { d with
      attnInput := attnInputOfCode (v.extractLsb' 0 5)
      attnSense := attnSenseOfCode (v.extractLsb' 8 2) }
  | _ => d

/-! ### Slot view words (R172, chapter 11.5) -/

/-- Slot state codes. -/
def SlotState.code : SlotState → Nat
  | .free => 0
  | .queued => 1
  | .active => 2
  | .complete => 3

/-- The collection a slot is in (R43), as its code and the endpoint whose queue or completion list it is, 0 for the
free pool and the immediate list (R172). -/
def State.collectionOf (s : State) (i : SlotId) : Nat × Nat :=
  if i ∈ s.immediate then (3, 0)
  else
    match (List.finRange 16).find? fun e => decide (i ∈ s.queues[e]) with
    | some e => (1, e.val)
    | none =>
      match (List.finRange 16).find? fun e => decide (i ∈ s.completions[e]) with
      | some e => (2, e.val)
      | none => (0, 0)

/-- The block number at list place `k`; 0 beyond the block count (R172). -/
def Slot.blockAt (sl : Slot) (k : Nat) : Nat := (sl.blocks[k]?).elim 0 Fin.val

/-- Four block numbers of the list, the first of them in the lowest byte (chapter 11.5). -/
def Slot.blockWord (sl : Slot) (k : Nat) : Word :=
  fieldAt 24 8 (sl.blockAt (k + 3)) ||| fieldAt 16 8 (sl.blockAt (k + 2)) ||| fieldAt 8 8 (sl.blockAt (k + 1)) |||
    fieldAt 0 8 (sl.blockAt k)

/-- Word `k` of slot i's view (R172, chapter 11.5). -/
def State.slotViewWord (s : State) (i : SlotId) (k : Nat) : Word :=
  let sl := s.slots[i]
  match k with
  | 0 => fieldAt 28 4 (sl.status.elim 15 MemStatus.code) ||| flagAt 27 sl.translation.isSome ||| flagAt 26 sl.posted |||
      flagAt 25 (decide (sl.direction = .write)) ||| flagAt 24 (decide (sl.cls = .privileged)) |||
      fieldAt 16 8 sl.length.toNat ||| fieldAt 8 8 sl.tag.toNat ||| fieldAt 4 4 (s.collectionOf i).2 |||
      fieldAt 2 2 (s.collectionOf i).1 ||| fieldAt 0 2 sl.state.code
  | 1 => fieldAt 24 4 (sl.translation.elim 0 fun t => t.endpoint.val) |||
      fieldAt 16 5 (sl.translation.elim 0 fun t => t.window.val) ||| fieldAt 8 4 sl.blocks.length |||
      fieldAt 0 7 sl.beatsDone
  | 2 => sl.blockWord 0
  | 3 => sl.blockWord 4
  | _ => 0

/-! ### Single words and the whole map (R161, chapter 11.2) -/

/-- The identity word (R167). -/
def identityWord : Word := Config.deviceCode ++ 0#12 ++ Config.siliconRevision

/-- The command word as read: the last-command record (R168). -/
def LastCommand.word (c : LastCommand) : Word :=
  fieldAt 24 8 c.code.toNat ||| fieldAt 16 4 c.status.code ||| fieldAt 0 8 c.index.toNat

/-- The attention acknowledge word as read: bit 16 + e for SENT, bit e for PENDING (R115). -/
def State.acknowledgeWordRead (s : State) : Word :=
  (List.finRange 16).foldl (fun acc e =>
    acc ||| flagAt e.val (decide (s.attn[e].state = .pending)) |||
      flagAt (16 + e.val) (decide (s.attn[e].state = .sent))) 0

/-- A link counter in its word (R173). -/
def counterWord (c : BitVec 16) : Word := c.setWidth 32

/-- Word `i` of management space as read (R161). A word of no region, and a descriptor word that holds no field, reads
as zero. -/
def State.readWord (s : State) (i : Nat) : Word :=
  if i = 0x000 then identityWord
  else if i = controlWord then s.link.replayTimeout.setWidth 32
  else if i = commandWord then s.lastCommand.word
  else if i = acknowledgeWord then s.acknowledgeWordRead
  else if i = 0x010 then counterWord s.link.counters.checkErrors
  else if i = 0x011 then counterWord s.link.counters.sequenceErrors
  else if i = 0x012 then counterWord s.link.counters.replays
  else if i = 0x013 then counterWord s.link.counters.creditOverruns
  else if i = 0x014 then counterWord s.link.counters.malformed
  else if h : 0x040 ≤ i ∧ i < 0x048 then s.staging[i - 0x040]
  else if h : 0x100 ≤ i ∧ i < 0x200 then s.windows[(i - 0x100) / 8].word ((i - 0x100) % 8)
  else if h : 0x200 ≤ i ∧ i < 0x300 then s.descriptorWord ⟨(i - 0x200) / 16, by omega⟩ ((i - 0x200) % 16)
  else if h : 0x300 ≤ i ∧ i < 0x400 then s.slotViewWord ⟨(i - 0x300) / 4, by omega⟩ ((i - 0x300) % 4)
  else 0

/-- Judging a write of value `v` to word `i` by a CFG-WRITE of `length` words (R164, check 3). `none` is a pass. -/
def State.judgeWord (s : State) (length i : Nat) (v : Word) : Option CfgStatus :=
  if i = commandWord ∨ i = acknowledgeWord then rangeUnless (decide (length = 1))
  else if i = controlWord then rangeUnless (decide (v.extractLsb' 0 8 ≠ 0))
  else if 0x040 ≤ i ∧ i < 0x048 then none
  else if h : 0x200 ≤ i ∧ i < 0x300 then
    s.endpoints[(i - 0x200) / 16].judgeWord ((i - 0x200) % 16) v
  else some .range

/-- Writing value `v` to word `i`, once the whole write has passed (R164): a staging word takes it whole (R177); a
control word's replayTimeout takes bits 7:0 (R176); a descriptor word changes its fields, and a write of attnInput or
attnSense has the level judged at once (R118). -/
def State.writeWord (s : State) (i : Nat) (v : Word) : State :=
  if i = controlWord then s.setLink { s.link with replayTimeout := v.extractLsb' 0 8 }
  else if h : 0x040 ≤ i ∧ i < 0x048 then { s with staging := s.staging.set (i - 0x040) v }
  else if h : 0x200 ≤ i ∧ i < 0x300 then
    let e : EndpointId := ⟨(i - 0x200) / 16, by omega⟩
    let t := s.setDescriptor e (s.endpoints[e].writeWord ((i - 0x200) % 16) v)
    if (i - 0x200) % 16 = 6 then t.judgeLevel e else t
  else s

end Sys2Proof.Machine
end

