-- ==== Sys2Proof/Machine/Management.lean ====
section
/-! DEFINITION. The Management Unit (chapter 10): taking a CFG request, and the meanings of CFG_READ, CFG_WRITE,
CLEAR_COUNTERS, DEVICE_RESET and UNKNOWN_COMMAND. -/

namespace Sys2Proof.Machine

/-- The three outcomes of a command. -/
abbrev Result := Host.Outcome State Fault Refusal

/-- While RESET_N is low the part is held in device reset and no event has an effect (R171). -/
def unlessHeld (s : State) (r : Result) : Result := if s.resetHeld then .next s else r

/-! ### Taking a CFG request (R162) -/

/-- Taking the oldest CFG request handed on, when it is one of those `p` names: `act` checks and applies it and builds
its reply, which joins the management reply list, all in one step (R162). When no such request stands first, the event
does not occur and the state stays as it is (assumption 2). -/
def takeCfg (s : State) (p : CfgRequest → Bool) (act : CfgRequest → State → CfgReply × State) : Result :=
  match s.cfgHanded with
  | [] => .next s
  | r :: rest =>
    if p r then
      if s.replyPlace then
        let result := act r { s with cfgHanded := rest }
        .next (result.2.addReply result.1)
      else .fault .noReplyPlace
    else .next s

/-- A reply without data: the offset is present when the status is not OK (R165). -/
def plainReply (r : CfgRequest) (status : CfgStatus) (offset : Nat) : CfgReply :=
  ⟨r.tag, status, if status = .ok then none else some (BitVec.ofNat 4 offset), []⟩

/-- A write to the command word with this code, taken: from class NORMAL it is refused with DENIED (R164); otherwise
the command is performed on its index, the reply carries its status, and the last-command record is replaced (R168). -/
def commandAct (perform : Byte → State → CfgStatus × State) (r : CfgRequest) (s : State) : CfgReply × State :=
  if r.cls = .normal then (plainReply r .denied 0, s)
  else
    let result := perform r.commandIndex s
    (plainReply r result.1 0,
      { result.2 with lastCommand := ⟨r.commandCode, r.commandIndex, result.1⟩ })

/-- The request is a CFG-WRITE of length 1 to the command word with this code. -/
def isCommand (code : Byte) (r : CfgRequest) : Bool := r.isSingleWrite commandWord && decide (r.commandCode = code)

/-- Taking the command of this code (R168). -/
def takeCommand (s : State) (code : Byte) (perform : Byte → State → CfgStatus × State) : Result :=
  takeCfg s (isCommand code) (commandAct perform)

/-- A window command: an index above 31 gives RANGE and nothing else changes (R168, step 2). -/
def onWindow (f : WindowId → State → CfgStatus × State) (index : Byte) (s : State) : CfgStatus × State :=
  if h : index.toNat < 32 then f ⟨index.toNat, h⟩ s else (.range, s)

/-- An endpoint command: an index above 15 gives RANGE and nothing else changes (R168, step 2). -/
def onEndpoint (f : EndpointId → State → CfgStatus × State) (index : Byte) (s : State) : CfgStatus × State :=
  if h : index.toNat < 16 then f ⟨index.toNat, h⟩ s else (.range, s)

/-! ### CFG_READ (R163) -/

/-- The last word a request covers lies past the end of management space (R163, R164). -/
def pastEnd (r : CfgRequest) : Bool := decide (Config.lastManagementWord < r.start.toNat + r.length.toNat - 1)

/-- The position within a request of the first word past the end of management space (R163, R164). -/
def pastEndOffset (r : CfgRequest) : Nat := 1024 - r.start.toNat

/-- A read: RANGE past the end, otherwise its words gathered in ascending order as they stand (R163). -/
def readAct (r : CfgRequest) (s : State) : CfgReply × State :=
  if pastEnd r then (plainReply r .range (pastEndOffset r), s)
  else (⟨r.tag, .ok, none, (List.range r.length.toNat).map fun k => s.readWord (r.start.toNat + k)⟩, s)

/-- CFG_READ: the Management Unit takes a CFG-READ (R163). -/
def execCfgRead (s : State) : Result :=
  unlessHeld s (takeCfg s (fun r => decide (r.direction = .read)) readAct)

/-! ### CFG_WRITE (R164) -/

/-- The first word of a write that fails, from offset `k` on, with its status (R164, check 3). -/
def firstFailure (s : State) (length start : Nat) : Nat → List Word → Option (CfgStatus × Nat)
  | _, [] => none
  | k, v :: vs =>
    match s.judgeWord length (start + k) v with
    | some status => some (status, k)
    | none => firstFailure s length start (k + 1) vs

/-- Every word of a write applied, from word `i` on (R164). -/
def writeWords (s : State) : Nat → List Word → State
  | _, [] => s
  | i, v :: vs => writeWords (s.writeWord i v) (i + 1) vs

/-- A write to words other than the command word and the acknowledge word, or a refused write: the checks of R164 in
order, class, extent, words; then every word applied, or none. -/
def writeAct (r : CfgRequest) (s : State) : CfgReply × State :=
  if r.cls = .normal then (plainReply r .denied 0, s)
  else if pastEnd r then (plainReply r .range (pastEndOffset r), s)
  else
    match firstFailure s r.length.toNat r.start.toNat 0 r.data with
    | some (status, k) => (plainReply r status k, s)
    | none => (plainReply r .ok 0, writeWords s r.start.toNat r.data)

/-- CFG_WRITE: the Management Unit takes a CFG-WRITE that performs no command and no acknowledgement (R164). -/
def execCfgWrite (s : State) : Result :=
  unlessHeld s (takeCfg s (fun r => decide (r.direction = .write) && !r.performs) writeAct)

/-! ### Commands of the Management Unit -/

/-- Every link counter and every transactionsDone becomes 0 (R169). -/
def clearCounters (s : State) : State :=
  { s with
    link := { s.link with counters := .zero }
    endpoints := tabulate fun e => { s.endpoints[e] with transactionsDone := 0 } }

/-- CLEAR_COUNTERS (R169): the index is not read. -/
def execClearCounters (s : State) : Result :=
  unlessHeld s (takeCommand s codeClearCounters fun _ t => (.ok, clearCounters t))

/-- DEVICE_RESET (R170): a device reset at once, with no reply. From class NORMAL it is refused with DENIED and
receives its reply like any refused write. -/
def execDeviceReset (s : State) : Result :=
  unlessHeld s
    (match s.cfgHanded with
    | [] => .next s
    | r :: rest =>
      if isCommand codeDeviceReset r then
        if r.cls = .normal then
          if s.replyPlace then .next ({ s with cfgHanded := rest }.addReply (plainReply r .denied 0))
          else .fault .noReplyPlace
        else .next s.deviceReset
      else .next s)

/-- UNKNOWN_COMMAND (R168, step 1): a code that names none of the nine commands replies UNKNOWN; only the last-command
record changes. -/
def execUnknownCommand (s : State) : Result :=
  unlessHeld s
    (takeCfg s (fun r => r.isSingleWrite commandWord && decide (r.commandCode ∉ commandCodes))
      (commandAct fun _ t => (.unknown, t)))

end Sys2Proof.Machine
end

