-- ==== Sys2Proof/Machine/Attention.lean ====
section
/-! DEFINITION. The Attention Unit (chapter 7): the meanings of ATTENTION_SAMPLE and ATTENTION_ACKNOWLEDGE. -/

namespace Sys2Proof.Machine

/-- The sample `levels` shows endpoint e an edge that meets its sense: an edge needs a previous sample (R116, R117). -/
def State.edgeSeen (s : State) (levels : BitVec 16) (e : EndpointId) : Bool :=
  match s.endpoints[e].attnInput, s.lastSample with
  | some n, some before => s.endpoints[e].attnSense.edgeHolds (before.getLsbD n.val) (levels.getLsbD n.val)
  | _, _ => false

/-- The sample `levels` meets endpoint e's level sense (R117). -/
def State.levelSeen (s : State) (levels : BitVec 16) (e : EndpointId) : Bool :=
  match s.endpoints[e].attnInput with
  | some n => s.endpoints[e].attnSense.levelHolds (levels.getLsbD n.val)
  | none => false

/-- Endpoint e's record after a sample: IDLE takes an attention when the condition holds (R118), PENDING and SENT count
a further edge (R122), and a DISABLED endpoint does neither. -/
def State.sampledRecord (s : State) (levels : BitVec 16) (e : EndpointId) : AttnRecord :=
  let r := s.attn[e]
  if s.endpoints[e].state = .disabled then r
  else
    match r.state with
    | .idle => if s.levelSeen levels e || s.edgeSeen levels e then s.takenRecord e else r
    | .pending => if s.edgeSeen levels e then { r with repeats := repeatsUp r.repeats } else r
    | .sent => if s.edgeSeen levels e then { r with repeats := repeatsUp r.repeats } else r

/-- ATTENTION_SAMPLE: the sixteen inputs are sampled, every endpoint judges its condition, and the sample is kept as the
latest (R116, R118, R122). While RESET_N is low the inputs are not sampled (R171). -/
def execAttentionSample (levels : BitVec 16) (s : State) : Result :=
  unlessHeld s
    (.next { s with
      attn := tabulate fun e => s.sampledRecord levels e
      lastSample := some levels })

/-- Endpoint e's record after an acknowledgement that names it: SENT becomes IDLE, and a level sense that holds is then
taken at once with a new fence; PENDING and IDLE stay (R123). -/
def State.acknowledgedRecord (s : State) (e : EndpointId) : AttnRecord :=
  if s.attn[e].state = .sent then
    if s.endpoints[e].state ≠ .disabled ∧ s.levelHolds e = true then s.takenRecord e else .idle
  else s.attn[e]

/-- The acknowledge write taken: from class NORMAL it is refused with DENIED and changes no record (R164); otherwise
every named record is acted on and the reply is OK (R123). -/
def acknowledgeAct (r : CfgRequest) (s : State) : CfgReply × State :=
  if r.cls = .normal then (plainReply r .denied 0, s)
  else
    (plainReply r .ok 0,
      { s with attn := tabulate fun e => if r.names e then s.acknowledgedRecord e else s.attn[e] })

/-- ATTENTION_ACKNOWLEDGE: the Management Unit takes a CFG-WRITE of length 1 to the attention acknowledge word (R123). -/
def execAttentionAcknowledge (s : State) : Result :=
  unlessHeld s (takeCfg s (fun r => r.isSingleWrite acknowledgeWord) acknowledgeAct)

end Sys2Proof.Machine
end

