-- ==== Sys2Proof/Machine/Endpoints.lean ====
section
/-! DEFINITION. The endpoint commands (chapter 2): the meanings of ENABLE_ENDPOINT, DISABLE_ENDPOINT, ABORT_ENDPOINT and
RESUME_ENDPOINT. -/

namespace Sys2Proof.Machine

/-! ### ENABLE_ENDPOINT (R27) -/

/-- An endpoint other than e that is not DISABLED has e's lane and select (R27, check 2). -/
def State.selectTaken (s : State) (e : EndpointId) : Bool :=
  (List.finRange 16).any fun d =>
    decide (d ≠ e) && decide (s.endpoints[d].state ≠ .disabled) &&
      decide (s.endpoints[d].lane = s.endpoints[e].lane) && decide (s.endpoints[d].select = s.endpoints[e].select)

/-- ENABLE-ENDPOINT e (R27): from DISABLED, the sampleDelay check and then the conflict check; the endpoint becomes
ACTIVE with haltCause NONE, and a level sense that holds is taken at once (R118, R125). -/
def enableEndpoint (e : EndpointId) (s : State) : CfgStatus × State :=
  let d := s.endpoints[e]
  match d.state with
  | .disabled =>
    if 2 * d.clockDiv.toNat ≤ d.sampleDelay.toNat then (.range, s)
    else if s.selectTaken e then (.conflict, s)
    else (.ok, (s.setDescriptor e { d with state := .active, haltCause := .none }).judgeLevel e)
  | .active => (.state, s)
  | .draining => (.state, s)
  | .halted => (.state, s)
  | .stopping => (.state, s)

/-- ENABLE_ENDPOINT (R27). -/
def execEnableEndpoint (s : State) : Result :=
  unlessHeld s (takeCommand s codeEnableEndpoint (onEndpoint enableEndpoint))

/-! ### DISABLE_ENDPOINT (R28, R29) -/

/-- DISABLE-ENDPOINT e. ACTIVE: DISABLED at once when the queue is empty and the engine is not inside a transaction for
e, otherwise DRAINING. DRAINING: OK and no change. HALTED: the queue ends ABORTED and the endpoint becomes DISABLED.
DISABLED and STOPPING: STATE (R28, R29). -/
def disableEndpoint (e : EndpointId) (s : State) : CfgStatus × State :=
  match s.endpoints[e].state with
  | .active =>
    if s.queues[e] = [] ∧ s.inside e = false then (.ok, s.enterDisabled e) else (.ok, s.setEpState e .draining)
  | .draining => (.ok, s)
  | .halted => (.ok, s.stopEndpoint e)
  | .disabled => (.state, s)
  | .stopping => (.state, s)

/-- DISABLE_ENDPOINT (R28, R29). -/
def execDisableEndpoint (s : State) : Result :=
  unlessHeld s (takeCommand s codeDisableEndpoint (onEndpoint disableEndpoint))

/-! ### ABORT_ENDPOINT (R30, R31) -/

/-- The slots of e's queue that ABORT-ENDPOINT marks at once: every slot behind the head being cut, or the whole queue
when the transaction in hand was cut by a link reset and has no slot (R31, R41). -/
def State.behindTheCut (s : State) (e : EndpointId) : List SlotId :=
  match s.engines[s.endpoints[e].lane].currentSlot with
  | some _ => s.queues[e].tail
  | none => s.queues[e]

/-- The status of these slots set to ABORTED at once; one already set is kept (R31, R41). -/
def State.markAborted (s : State) (marked : List SlotId) : State :=
  { s with slots := tabulate fun i =>
      if i ∈ marked then { s.slots[i] with status := some (s.slots[i].status.getD .aborted) } else s.slots[i] }

/-- ABORT-ENDPOINT e with the engine inside a transaction for e: STOPPING, the slots behind the cut marked, the
transaction cut (R31, R80). -/
def abortInside (e : EndpointId) (s : State) : State :=
  ((s.setEpState e .stopping).markAborted (s.behindTheCut e)).cutByAbort s.endpoints[e].lane

/-- ABORT-ENDPOINT e (R30, R31). -/
def abortEndpoint (e : EndpointId) (s : State) : CfgStatus × State :=
  match s.endpoints[e].state with
  | .active => if s.inside e then (.ok, abortInside e s) else (.ok, s.stopEndpoint e)
  | .draining => if s.inside e then (.ok, abortInside e s) else (.ok, s.stopEndpoint e)
  | .halted => (.ok, s.stopEndpoint e)
  | .disabled => (.state, s)
  | .stopping => (.state, s)

/-- ABORT_ENDPOINT (R30, R31). -/
def execAbortEndpoint (s : State) : Result :=
  unlessHeld s (takeCommand s codeAbortEndpoint (onEndpoint abortEndpoint))

/-! ### RESUME_ENDPOINT (R33) -/

/-- RESUME-ENDPOINT e: from HALTED to ACTIVE, or to DRAINING when drainAfterResume is yes, and from there to DISABLED
at once when the queue is empty; haltCause becomes NONE and drainAfterResume no (R33, R34). -/
def resumeEndpoint (e : EndpointId) (s : State) : CfgStatus × State :=
  let d := s.endpoints[e]
  match d.state with
  | .halted =>
    (.ok, (s.setDescriptor e
      { d with state := if d.drainAfterResume then .draining else .active, haltCause := .none,
               drainAfterResume := false }).drainIfEmpty e)
  | .disabled => (.state, s)
  | .active => (.state, s)
  | .draining => (.state, s)
  | .stopping => (.state, s)

/-- RESUME_ENDPOINT (R33). -/
def execResumeEndpoint (s : State) : Result :=
  unlessHeld s (takeCommand s codeResumeEndpoint (onEndpoint resumeEndpoint))

end Sys2Proof.Machine
end

