-- ==== Sys2Proof/Machine/Lanes.lean ====
section
/-! DEFINITION. The lane engines and their arbiters (chapters 4 and 5): eligibility and the round-robin search (R88,
R89), the grant (R67), the parts of a transaction and what each puts on LnDO (R73 to R77), and the meanings of GRANT,
READY_SEEN, READY_TIMEOUT, PHASE_END, WORD_COMPLETE, RELEASE and GAP_END. The lengths of R70 to R73 and the levels of
LnCLK and LnDO within a bit period are functions of the state at the end. -/

namespace Sys2Proof.Machine

/-! ### The arbiter (R88, R89) -/

/-- Endpoint e is eligible on lane L (R88). -/
def State.eligible (s : State) (l : LaneId) (e : EndpointId) : Bool :=
  decide (s.endpoints[e].lane = l) &&
    (decide (s.endpoints[e].state = .active) || decide (s.endpoints[e].state = .draining)) && s.workLeft e

/-- The eligible endpoint of lane L at select k. At most one endpoint is (R27, R88). -/
def State.eligibleAt (s : State) (l : LaneId) (k : SelectId) : Option EndpointId :=
  (List.finRange 16).find? fun e => decide (s.endpoints[e].select = k) && s.eligible l e

/-- The selects in the order the arbiter examines them: nextSelect, nextSelect + 1, nextSelect + 2, nextSelect + 3,
each modulo 4 (R89). -/
def searchOrder (next : SelectId) : List SelectId := [next, next + 1, next + 2, next + 3]

/-- The first endpoint of a list of selects found eligible, with its select. -/
def State.firstEligible (s : State) (l : LaneId) : List SelectId → Option (SelectId × EndpointId)
  | [] => none
  | k :: ks =>
    match s.eligibleAt l k with
    | some e => some (k, e)
    | none => s.firstEligible l ks

/-- The arbiter's search on lane L (R89). -/
def State.arbitrate (s : State) (l : LaneId) : Option (SelectId × EndpointId) :=
  s.firstEligible l (searchOrder s.engines[l].nextSelect)

/-! ### The units of a transaction (R73 to R77) -/

/-- The idle level of LnCLK for a clockMode, true for high: modes 2 and 3 (R71). -/
def idleLevelOf (clockMode : BitVec 2) : Bool := decide (2 ≤ clockMode.toNat)

/-- The slot and snapshot of the transaction in hand; none once a link reset has freed the slot (R65). -/
def State.slotInHand (s : State) (g : Engine) : Option (Slot × Snapshot) :=
  match g.currentSlot with
  | none => none
  | some i =>
    match s.slots[i].translation with
    | none => none
    | some t => some (s.slots[i], t)

/-- The descriptor of the transaction in hand. -/
def State.endpointInHand (s : State) (g : Engine) : Descriptor :=
  match g.currentEndpoint with
  | some e => s.endpoints[e]
  | none => Descriptor.reset 0

/-- The levels LnDO takes for data word `j` of the transaction: a write word from its beat (R75), the fill word of a
STREAM read (R76, R77), low for a REGISTER or BLOCK read (R76). -/
def State.dataBits (s : State) (g : Engine) (sl : Slot) (t : Snapshot) (j : Nat) : List Bool :=
  let d := s.endpointInHand g
  match sl.direction with
  | .write => bitsOut d.bitOrder d.wordSize.toNat (readBeat sl.blocks (g.beatIndex + j) s.pool)
  | .read =>
    match t.kind with
    | .stream => bitsOut d.bitOrder d.wordSize.toNat g.fill
    | .register => List.replicate d.wordSize.toNat false
    | .block => List.replicate d.wordSize.toNat false

/-- The levels LnDO takes over unit `j` of a part of SHIFTING (R73): the command byte, address byte `j`, or data word `j`.
The other parts have no units. -/
def State.unitBits (s : State) (g : Engine) (sl : Slot) (t : Snapshot) (p : Phase) (j : Nat) : List Bool :=
  let d := s.endpointInHand g
  match p with
  | .lead => []
  | .command => bitsOut d.bitOrder 8 ((t.cmd.getD 0).setWidth 32)
  | .address => bitsOut d.bitOrder 8 (addressByte g.value t.addrWidth.toNat j)
  | .dummy => []
  | .data => s.dataBits g sl t j
  | .trail => []

/-- The condition under which a part is present (R7, R73). -/
def partPresent (sl : Slot) (t : Snapshot) : Phase → Bool
  | .lead => true
  | .command => t.cmd.isSome
  | .address => decide (1 ≤ t.addrWidth.toNat) && decide (t.addrWidth.toNat ≤ 4)
  | .dummy => decide (sl.direction = .read) && decide (1 ≤ t.dummy.toNat)
  | .data => true
  | .trail => true

/-- The parts that follow a part, in the fixed order (R73). -/
def partsAfter : Phase → List Phase
  | .lead => [.command, .address, .dummy, .data]
  | .command => [.address, .dummy, .data]
  | .address => [.dummy, .data]
  | .dummy => [.data]
  | .data => [.trail]
  | .trail => []

/-- The part that begins when part `p` ends: the first present part of those that follow it (R73). -/
def nextPart (sl : Slot) (t : Snapshot) (p : Phase) : Phase :=
  ((partsAfter p).find? fun q => partPresent sl t q).getD .trail

/-- The units of part `p`, or the bit periods of DUMMY, before the data phase (R7, R73). -/
def unitsOf (t : Snapshot) : Phase → Nat
  | .address => t.addrWidth.toNat
  | .dummy => t.dummy.toNat
  | .lead => 1
  | .command => 1
  | .data => 1
  | .trail => 1

/-- The levels of the unit in hand join those LnDO has taken since the grant. -/
def Engine.unitDone (g : Engine) : Engine := { g with laneOut := g.laneOut ++ g.unitOut }

/-- The engine when part `p` ends and the transaction is not being cut: the next part begins (R73). -/
def State.afterPart (s : State) (g : Engine) (p : Phase) : Engine :=
  match s.slotInHand g with
  | some (sl, t) => g.enterPart (nextPart sl t p)
  | none => g.enterTrail

/-- The number of the unit that follows, counted from 0: after those complete, and after the word whose last input is
still to be taken (R65, R72). -/
def Engine.nextUnit (g : Engine) : Nat :=
  match g.completing with
  | none => g.unitCount
  | some n => n + 1

/-- The engine before a unit of part `p` when the unit's first bit period begins: its levels are latched, and a data word
is no longer among those not yet begun (R65, R74, R75). -/
def State.beginUnit (s : State) (g : Engine) (p : Phase) : Engine :=
  match s.slotInHand g with
  | some (sl, t) =>
    { g with between := false, unitOut := s.unitBits g sl t p g.nextUnit
             wordsLeft := if p = .data then g.wordsLeft - 1 else g.wordsLeft }
  | none => g.enterTrail

/-! ### GRANT (R67, R89) -/

/-- The core-clock period of a bit period at which its sampling edge comes: the leading edge in modes 0 and 2, the
trailing edge in modes 1 and 3 (R70, R71). -/
def samplingEdgeAt (clockMode : BitVec 2) (div : BitVec 8) : Nat :=
  if clockMode.getLsbD 0 then 2 * div.toNat else div.toNat

/-- The core-clock period, counted from the start of a bit period, at which its input is taken (R72). -/
def inputTakenAt (clockMode : BitVec 2) (div : BitVec 8) (sampleDelay : BitVec 4) : Nat :=
  samplingEdgeAt clockMode div + sampleDelay.toNat

/-- The input of a bit is taken after its bit period has ended, in the one that follows (R72). -/
def inputLate (clockMode : BitVec 2) (div : BitVec 8) (sampleDelay : BitVec 4) : Bool :=
  decide (2 * div.toNat < inputTakenAt clockMode div sampleDelay)

/-- The engine after a grant of the head slot `sl` (slot `i`, snapshot `t`) of endpoint e at select k (R67, R89). -/
def Engine.granted (g : Engine) (e : EndpointId) (d : Descriptor) (k : SelectId) (i : SlotId) (sl : Slot)
    (t : Snapshot) : Engine :=
  let beat := match t.kind with
    | .register => sl.beatsDone
    | .block => 0
    | .stream => 0
  let words := match t.kind with
    | .register => 1
    | .block => sl.length.toNat
    | .stream => sl.length.toNat
  let value := match t.kind with
    | .register => BitVec.ofNat 32 (t.firstValue + beat)
    | .block => BitVec.ofNat 32 t.firstValue
    | .stream => 0
  { g with
    currentEndpoint := some e
    currentSlot := some i
    cut := .none
    beatIndex := beat
    wordsLeft := words
    value := value
    fill := d.fillWord
    div := d.clockDiv
    idleLevel := idleLevelOf d.clockMode
    selects := selectAsserted k
    laneOut := []
    unitOut := []
    between := false
    late := decide (sl.direction = .read) && inputLate d.clockMode d.clockDiv d.sampleDelay
    completing := none
    nextSelect := k + 1
    engineState := match d.readyMode with
      | .wait => .waitReady
      | .none => .shifting
    phase := match d.readyMode with
      | .wait => none
      | .none => some .lead
    unitCount := match d.readyMode with
      | .wait => g.unitCount
      | .none => 0
    readyTimer := match d.readyMode with
      | .wait => some d.readyTimeout
      | .none => none }

/-- GRANT on lane L: with the engine IDLE, the arbiter grants the first eligible endpoint of its search; the engine
takes the grant and the head is marked ACTIVE (R59, R67, R89). A search that finds nothing changes nothing. -/
def execGrant (l : LaneId) (s : State) : Result :=
  unlessHeld s
    (if s.engines[l].engineState ≠ .idle then .next s
    else
      match s.arbitrate l with
      | none => .next s
      | some (k, e) =>
        match s.queues[e].head? with
        | none => .next s
        | some i =>
          match s.slots[i].translation with
          | none => .next s
          | some t =>
            .next ((s.setSlot i { s.slots[i] with state := .active }).setEngine l
              (s.engines[l].granted e s.endpoints[e] k i s.slots[i] t)))

/-! ### READY_SEEN (R68) and READY_TIMEOUT (R69) -/

/-- READY_SEEN on lane L: in WAIT_READY the ready timer stops and the engine enters SHIFTING, phase LEAD. In every
other state a level on LnRDY has no effect (R66, R68). -/
def execReadySeen (l : LaneId) (s : State) : Result :=
  unlessHeld s
    (match s.engines[l].engineState with
    | .waitReady =>
      .next (s.setEngine l { s.engines[l] with
        engineState := .shifting, phase := some .lead, unitCount := 0, readyTimer := none })
    | .idle => .next s
    | .shifting => .next s
    | .gap => .next s)

/-- The endpoint's side of a ready timeout: HALTED, haltCause READY_TIMEOUT, drainAfterResume yes if it was DRAINING
(R35). -/
def Descriptor.halt (d : Descriptor) : Descriptor :=
  { d with state := .halted, haltCause := .readyTimeout, drainAfterResume := decide (d.state = .draining) }

/-- READY_TIMEOUT on lane L: in WAIT_READY the select is released at once and the engine enters GAP; the head ends
TIMEOUT with the beatsDone it has, and the endpoint becomes HALTED (R35, R61, R69). -/
def execReadyTimeout (l : LaneId) (s : State) : Result :=
  unlessHeld s
    (match s.engines[l].engineState with
    | .waitReady =>
      let g := s.engines[l]
      let s1 := s.setEngine l (g.released (s.gapBitsOf g))
      match g.currentEndpoint with
      | none => .next s1
      | some e =>
        let s2 := match g.currentSlot with
          | none => s1
          | some i => s1.endSlot e i .timeout
        .next (s2.setDescriptor e s2.endpoints[e].halt)
    | .idle => .next s
    | .shifting => .next s
    | .gap => .next s)

/-! ### PHASE_END (R73) -/

/-- The engine when a byte or a dummy bit period completes: unitCount counts it; under a cut TRAIL follows, then come the
bytes or bit periods the part still has, and after the last of them the next part begins (R65, R73, R80). -/
def State.afterUnit (s : State) (g : Engine) (p : Phase) : Engine :=
  let g1 := { g.unitDone with unitCount := g.unitCount + 1 }
  if g.cut ≠ .none then g1.enterTrail
  else
    match s.slotInHand g with
    | none => g1.enterTrail
    | some (_, t) => if g1.unitCount < unitsOf t p then g1.beforeUnit p else s.afterPart g1 p

/-- The engine when the bit periods of a data word are over: TRAIL follows under a cut, after the last word, or once a
link reset has freed the slot, and otherwise the next word (R73, R80). -/
def Engine.afterWordBits (g : Engine) : Engine :=
  if g.cut ≠ .none ∨ g.wordsLeft = 0 ∨ g.currentSlot = none then g.enterTrail else g.beforeUnit .data

/-- The engine when the bit periods of a read word are over before its last input is taken: the word is completing, and
what follows it begins (R72, R73). -/
def Engine.afterLateWord (g : Engine) : Engine :=
  { g.unitDone with completing := some g.unitCount }.afterWordBits

/-- PHASE_END on lane L. Between two units, the first bit period of the next one begins. Otherwise LEAD, a command byte, an
address byte, a dummy bit period, or the bit periods of a read word whose last input comes later, end, and what follows
begins (R72 to R74, R80). It is no event of the lane for another word in DATA, nor while a word before it is completing,
nor in TRAIL, nor outside SHIFTING. -/
def execPhaseEnd (l : LaneId) (s : State) : Result :=
  unlessHeld s
    (let g := s.engines[l]
    match g.engineState, g.phase with
    | .shifting, some p =>
      if g.between then .next (s.setEngine l (s.beginUnit g p))
      else
        match p with
        | .lead => .next (s.setEngine l (s.afterPart g .lead))
        | .command => .next (s.setEngine l (s.afterUnit g .command))
        | .address => .next (s.setEngine l (s.afterUnit g .address))
        | .dummy => .next (s.setEngine l (s.afterUnit g .dummy))
        | .data => if g.late ∧ g.completing = none then .next (s.setEngine l g.afterLateWord) else .next s
        | .trail => .next s
    | _, _ => .next s)

/-! ### WORD_COMPLETE (R75, R76) -/

/-- The engine when a data word completes as its bit periods end: it is counted, and what follows it begins (R65, R73,
R80). -/
def Engine.afterWord (g : Engine) : Engine := { g.unitDone with unitCount := g.unitCount + 1 }.afterWordBits

/-- The engine when the last input of a word whose bit periods are over is taken: the word is complete, and counted in
DATA; in TRAIL unitCount is TRAIL's (R65, R72, R73). -/
def Engine.inputTaken (g : Engine) : Engine :=
  { g with completing := none, unitCount := if g.phase = some .data then g.unitCount + 1 else g.unitCount }

/-- The Slot Table's side of a completed word, word `j` of the transaction: a read word is stored in its beat, and
beatsDone rises; once a link reset has freed the slot, nothing (R59, R75, R76, R81). -/
def State.wordDone (s : State) (g : Engine) (j : Nat) (din : Word) : State :=
  match g.currentSlot with
  | none => s
  | some i =>
    let sl := s.slots[i]
    let d := s.endpointInHand g
    let s1 := s.setSlot i { sl with beatsDone := sl.beatsDone + 1 }
    match sl.direction with
    | .write => s1
    | .read =>
      let word := bitsIn d.bitOrder d.wordSize.toNat din
      { s1 with pool := writeBeat sl.blocks (g.beatIndex + j) word s.pool }

/-- WORD_COMPLETE on lane L, in SHIFTING: the word completing has its last input taken, in the next word's bit periods or
in TRAIL; with none completing, the word in flight in DATA completes as its bit periods end, unless its last input comes
later (R72, R74, R75, R76). -/
def execWordComplete (l : LaneId) (din : Word) (s : State) : Result :=
  unlessHeld s
    (let g := s.engines[l]
    match g.engineState, g.completing with
    | .shifting, some j => .next ((s.wordDone g j din).setEngine l g.inputTaken)
    | .shifting, none =>
      if g.phase = some .data ∧ g.between = false ∧ g.late = false then
        .next ((s.wordDone g g.unitCount din).setEngine l g.afterWord)
      else .next s
    | _, _ => .next s)

/-! ### RELEASE (R78) and GAP_END (R79) -/

/-- RELEASE on lane L: TRAIL ends, the select is released, the transaction is reported and the engine enters GAP (R78). The
select stays asserted until every input of the transaction has been taken (R72). -/
def execRelease (l : LaneId) (s : State) : Result :=
  unlessHeld s
    (match s.engines[l].engineState, s.engines[l].phase, s.engines[l].completing with
    | .shifting, some .trail, none => .next (s.finishTransaction l)
    | _, _, _ => .next s)

/-- GAP_END on lane L: the gap timer has reached 0; the engine stops it, clears currentEndpoint and goes to IDLE
(R79). -/
def execGapEnd (l : LaneId) (s : State) : Result :=
  unlessHeld s
    (match s.engines[l].engineState with
    | .gap => .next (s.setEngine l { s.engines[l] with engineState := .idle, gapTimer := none, currentEndpoint := none })
    | .idle => .next s
    | .waitReady => .next s
    | .shifting => .next s)

/-! ### Lengths and levels within a bit period (R70 to R73)

These are the manual's formulas in core-clock periods and bit periods. The events above are told in their order, not
in time (spec 00_scope.md, Time): a step ends a unit whole, and these say what the pins show inside it. -/

/-- A bit period in core-clock periods (R70). -/
def bitPeriodClocks (div : BitVec 8) : Nat := 2 * div.toNat

/-- A bit period in nanoseconds at the nominal core clock of 200 MHz (R70). -/
def bitPeriodNs (div : BitVec 8) : Nat := 10 * div.toNat

/-- The core-clock period of a bit period at which LnDO changes: its start in modes 0 and 2, the leading edge in modes 1
and 3 (R71). -/
def outputChangesAt (clockMode : BitVec 2) (div : BitVec 8) : Nat :=
  if clockMode.getLsbD 0 then div.toNat else 0

/-- LnCLK is clocking: the engine shifts a byte, a word or a dummy bit period. In LEAD, in TRAIL and outside SHIFTING the
clock is idle (R66, R68, R70, R73). -/
def Engine.clocking (g : Engine) : Bool :=
  decide (g.engineState = .shifting) && !g.between &&
    match g.phase with
    | some .command => true
    | some .address => true
    | some .dummy => true
    | some .data => true
    | some .lead => false
    | some .trail => false
    | none => false

/-- The level of LnCLK, true for high, `k` core-clock periods into the bit period in hand: idle until the leading edge at
div, the other level until the trailing edge at twice div, which ends a clocking bit period (R70). -/
def Engine.clockLevelAt (g : Engine) (k : Nat) : Bool :=
  if g.clocking ∧ g.div.toNat ≤ k ∧ k < bitPeriodClocks g.div then !g.idleLevel else g.idleLevel

/-- The level of LnDO at the end of bit period `n - 1` of the unit in hand; before its first, the last level the lane took
since the grant, low after LEAD (R71). -/
def Engine.levelBefore (g : Engine) (n : Nat) : Bool :=
  match n with
  | 0 => g.laneOut.getLast?.getD false
  | m + 1 => g.unitOut.getD m false

/-- The level of LnDO `k` core-clock periods into bit period `n` of the unit in hand, for an endpoint of this clockMode:
the bit's own level from the change on, the level before it until then, low while the clock is idle (R66, R71, R73). In
modes 1 and 3 the level before stands until the leading edge also in the first bit period of DUMMY and of the data phase of
a REGISTER or BLOCK read, of which R73 and R76 say that LnDO is low; that, and low between two units, are
the model's choices (assumption 35). -/
def Engine.dataLevelAt (g : Engine) (clockMode : BitVec 2) (n k : Nat) : Bool :=
  if g.clocking = false then false
  else if k < outputChangesAt clockMode g.div then g.levelBefore n
  else g.unitOut.getD n false

/-- The length of a transaction in bit periods, from the start of LEAD to the end of TRAIL (R73). -/
def transactionBitPeriods (sl : Slot) (t : Snapshot) (words wordSize : Nat) : Nat :=
  2 + (if t.cmd.isSome then 8 else 0) + 8 * t.addrWidth.toNat +
    (match sl.direction with
      | .read => t.dummy.toNat
      | .write => 0) + words * wordSize

end Sys2Proof.Machine
end

