-- ==== Sys2Proof/Machine/Link.lean ====
section
/-! DEFINITION. The Link Port's inbound side and its timers (chapters 8 and 9): the meanings of BAD_PACKET,
SEQUENCED_PACKET, HOST_ACK, HOST_NAK, SYNC and of the three timer expiries. -/

namespace Sys2Proof.Machine

/-! ### BAD_PACKET (R129, R134) -/

/-- BAD_PACKET: checkErrors increments; while UP a NAK may be made due (R129, R134). -/
def execBadPacket (f : Frame) (s : State) : Result :=
  unlessHeld s
    (match f.arrival with
    | .bad =>
      let k := s.link.countCheckError
      .next (s.setLink (if k.linkState = .up then k.noteGap else k))
    | _ => .next s)

/-! ### SEQUENCED_PACKET (R134, R136, R137, R153, R154) -/

/-- Consuming credits in the step of the hand-on: the available counts fall, the totals stay (R153). -/
def State.consumeCredits (s : State) (request data management : Nat) : State :=
  { s with credits :=
      { request := s.credits.request.consume request, data := s.credits.data.consume data,
        management := s.credits.management.consume management } }

/-- An overrun: the packet is discarded, creditOverruns increments and a CREDIT_OVERRUN notice is created (R154). -/
def State.overrun (s : State) (kind : CreditKind) (tag : Option Byte) : State :=
  (s.setLink s.link.countOverrun).addNotice (.creditOverrun kind tag)

/-- The credit check of a self-consistent packet, request before data for MEM; a packet that passes consumes its credits
and is handed on (R137, R153, R154). -/
def State.creditCheck (s : State) : Request → State
  | .mem m =>
    if s.credits.request.available < 1 then s.overrun .request (some m.tag)
    else if s.credits.data.available < dataCreditsFor m.length then s.overrun .data (some m.tag)
    else { s with memHanded := s.memHanded ++ [m] }.consumeCredits 1 (dataCreditsFor m.length) 0
  | .cfg c =>
    if s.credits.management.available < 1 then s.overrun .management none
    else { s with cfgHanded := s.cfgHanded ++ [c] }.consumeCredits 0 0 1

/-- A packet accepted in sequence: malformed, or on to the credit check (R136, R137). -/
def State.acceptPacket (s : State) (p : HostPacket) : State :=
  let s1 := s.setLink s.link.accept
  match p.request? with
  | none => s1.noteMalformed
  | some r => s1.creditCheck r

/-- A good sequenced packet while UP, judged by its distance d from E, modulo 128: in sequence, a duplicate, or ahead
(R134). -/
def State.judgeSequence (s : State) (p : HostPacket) : State :=
  let d := (p.seq - s.link.expectedSeq).toNat
  if d = 0 then s.acceptPacket p
  else if 64 ≤ d then s.setLink s.link.noteAckPending
  else s.setLink s.link.countSequenceError.noteGap

/-- SEQUENCED_PACKET (R134). While DOWN it is discarded without effect (R131). -/
def execSequencedPacket (f : Frame) (s : State) : Result :=
  unlessHeld s
    (match f.arrival with
    | .sequenced p => if s.link.linkState = .up then .next (s.judgeSequence p) else .next s
    | _ => .next s)

/-! ### HOST_ACK and HOST_NAK (R142, R143, R146) -/

/-- n minus O, modulo 128: the packets an ACK(n) in window covers (R142). -/
def LinkPort.covered (k : LinkPort) (n : SeqNum) : Nat := (n - k.oldestSeq).toNat

/-- ACK(n) is in window: n lies between O and outboundNext, inclusive (R142). -/
def LinkPort.inWindow (k : LinkPort) (n : SeqNum) : Bool :=
  decide (k.covered n ≤ (k.outboundNext - k.oldestSeq).toNat)

/-- The Link Port's record after an ACK(n) in window (R142, R146). When packets leave, replayCount becomes 0 and
replayTimer is restarted, or stopped on an empty buffer. A replay pointer whose packet has left moves to the oldest
packet that remains; on an empty buffer the replay ends. -/
def LinkPort.acknowledge (k : LinkPort) (n : SeqNum) : LinkPort :=
  if k.covered n = 0 then k
  else
    let rest := k.replayBuffer.drop (k.covered n)
    let k1 := { k with
      replayBuffer := rest
      replayCount := 0
      replayTimer := if rest = [] then none else some k.replayPeriod }
    { k1 with
      replayInProgress := k.replayInProgress && decide (rest ≠ [])
      replayPointer :=
        if k.replayInProgress && decide (rest ≠ []) && k1.replayPacket.isNone then k1.oldestSeq else k.replayPointer }

/-- HOST_ACK: while UP, a malformed ACK is discarded as malformed (R136, R175), an ACK out of window is ignored, and one
in window removes the packets it covers (R142). While DOWN it is discarded without effect (R131). -/
def execHostAck (f : Frame) (s : State) : Result :=
  unlessHeld s
    (match f.arrival with
    | .ack p =>
      if s.link.linkState = .down then .next s
      else if p.ackWellFormed = false then .next s.noteMalformed
      else if s.link.inWindow p.seq then .next (s.setLink (s.link.acknowledge p.seq))
      else .next s
    | _ => .next s)

/-- A NAK(n) in window: first as ACK(n), then a replay starts if the buffer still holds a packet (R143). -/
def State.takeNak (s : State) (n : SeqNum) : State :=
  let s1 := s.setLink (s.link.acknowledge n)
  if s1.link.replayBuffer = [] then s1 else s1.startReplay

/-- HOST_NAK: judged as an ACK for form, window and link state (R131, R136, R143). -/
def execHostNak (f : Frame) (s : State) : Result :=
  unlessHeld s
    (match f.arrival with
    | .nak p =>
      if s.link.linkState = .down then .next s
      else if p.ackWellFormed = false then .next s.noteMalformed
      else if s.link.inWindow p.seq then .next (s.takeNak p.seq)
      else .next s
    | _ => .next s)

/-! ### SYNC (R132) -/

/-- The Link Port's record after a SYNC (R130, R132). -/
def LinkPort.synced (k : LinkPort) : LinkPort :=
  { k with linkState := .up, expectedSeq := 0, ackPending := false, nakSent := false, outboundNext := 0,
           replayBuffer := [], replayInProgress := false, replayPointer := 0, replayCount := 0, replayTimer := none,
           refreshTimer := none, requestTimer := none, reportedTotals := ⟨64, 128, 4⟩,
           due := ⟨true, false, false, false⟩, ackRefresh := false }

/-- Taking a SYNC: a link reset when the link is UP, then the sequence numbers, the replay buffer, the initial grants and
the link UP with a SYNC-ACK due (R132, R160). -/
def State.takeSync (s : State) : State :=
  let s1 := if s.link.linkState = .up then s.linkReset else s
  { s1.setLink s1.link.synced with credits := .initial }

/-- SYNC (R132). A malformed SYNC is discarded as malformed in either link state (R136, R175). -/
def execSync (f : Frame) (s : State) : Result :=
  unlessHeld s
    (match f.arrival with
    | .sync p => if p.syncWellFormed then .next s.takeSync else .next s.noteMalformed
    | _ => .next s)

/-! ### Timers (R131, R139, R144) -/

/-- REPLAY_TIMER_EXPIRY: a running replayTimer expires and a replay starts, or the link fails (R144, R145). -/
def execReplayTimerExpiry (s : State) : Result :=
  unlessHeld s
    (if s.link.linkState = .up ∧ s.link.replayTimer.isSome = true then .next s.startReplay else .next s)

/-- REFRESH_TIMER_EXPIRY: a running refreshTimer expires and makes an ACK due; it then stands still until an ACK is
chosen (R138, R139). -/
def execRefreshTimerExpiry (s : State) : Result :=
  unlessHeld s
    (if s.link.linkState = .up ∧ s.link.refreshTimer.isSome = true then
      .next (s.setLink { s.link.makeAckDue with ackRefresh := true, refreshTimer := none })
    else .next s)

/-- REQUEST_TIMER_EXPIRY: a running requestTimer expires, makes a SYNC-REQUEST due and is restarted (R131). -/
def execRequestTimerExpiry (s : State) : Result :=
  unlessHeld s
    (if s.link.linkState = .down ∧ s.link.requestTimer.isSome = true then
      .next (s.setLink { s.link with
        due := { s.link.due with syncRequest := true }
        requestTimer := some s.link.replayPeriod })
    else .next s)

end Sys2Proof.Machine
end

