-- ==== Sys2Proof/Machine/Outbound.lean ====
section
/-! DEFINITION. The Outbound Arbiter (chapter 6): its choice among the candidates (R103, R104, R106, R140), and the
meanings of the packets it sends: ACK, NAK, SYNC_ACK, SYNC_REQUEST, RESEND, CFG_REPLY, NOTICE, ATTN, READ_DATA,
WRITE_DONE; and of TRANSMISSION_END. -/

namespace Sys2Proof.Machine

/-! ### The choice (R103) -/

/-- A packet the arbiter may choose (R103). -/
inductive Candidate where
  | syncAck
  | nak
  | ack
  | syncRequest
  | resend (p : SeqPacket)
  | cfgReply (r : CfgReply)
  | notice (n : Notice)
  | attn (e : EndpointId)
  | immediate (i : SlotId)
  | completion (e : EndpointId) (i : SlotId)
  deriving DecidableEq, Repr

/-- The control packet due that is chosen first: SYNC-ACK, NAK, ACK, SYNC-REQUEST (R140). -/
def LinkPort.dueCandidate (k : LinkPort) : Option Candidate :=
  if k.due.syncAck then some .syncAck
  else if k.due.nak then some .nak
  else if k.due.ack then some .ack
  else if k.due.syncRequest then some .syncRequest
  else none

/-- The lowest-numbered endpoint whose record is PENDING with no fence (R103, R121). -/
def State.attnCandidate (s : State) : Option EndpointId :=
  (List.finRange 16).find? fun e => decide (s.attn[e].state = .pending) && decide (s.attn[e].fence = none)

/-- The completion lists in the order searched: from nextCompletion, modulo 16, sixteen of them (R106). -/
def completionOrder (next : EndpointId) : List EndpointId := (List.finRange 16).map fun k => next + k

/-- The head of the first list that is not empty, with its endpoint (R106). -/
def State.firstCompletion (s : State) : List EndpointId → Option (EndpointId × SlotId)
  | [] => none
  | e :: es =>
    match s.completions[e] with
    | i :: _ => some (e, i)
    | [] => s.firstCompletion es

/-- The first admissible candidate among the sequenced sources, candidates 3 to 7 in the order of preference, with the
replay buffer holding H packets: 3 to 5 below 16, 6 and 7 below 13 (R103, R104). -/
def State.sequencedCandidate (s : State) : Option Candidate :=
  let h := s.link.replayBuffer.length
  if Config.replayPlaces ≤ h then none
  else
    match s.replies with
    | r :: _ => some (.cfgReply r)
    | [] =>
      match s.notices with
      | n :: _ => some (.notice n)
      | [] =>
        match s.attnCandidate with
        | some e => some (.attn e)
        | none =>
          if Config.dataReplyPlaces ≤ h then none
          else
            match s.immediate with
            | i :: _ => some (.immediate i)
            | [] => (s.firstCompletion (completionOrder s.nextCompletion)).map fun x => .completion x.1 x.2

/-- The arbiter's choice: none while the transmitter is SENDING, otherwise the first admissible candidate in the order
of preference (R103). -/
def State.choice (s : State) : Option Candidate :=
  match s.transmitter with
  | .sending _ => none
  | .free =>
    match s.link.dueCandidate with
    | some c => some c
    | none =>
      if s.link.replayInProgress then s.link.replayPacket.map Candidate.resend
      else if s.link.linkState = .down then none
      else s.sequencedCandidate

/-- A packet event occurs when the arbiter's choice is that packet, which `act` then sends; otherwise the event does not
occur and the state stays as it is (assumption 2). -/
def onChoice (s : State) (act : Candidate → Option State) : Result :=
  unlessHeld s
    (match s.choice with
    | none => .next s
    | some c =>
      match act c with
      | none => .next s
      | some t => .next t)

/-! ### Control packets (R131, R132, R135, R138 to R140) -/

/-- The ACK as chosen: next is expectedSeq and the totals are current; ackPending becomes no, reportedTotals takes the
totals carried and refreshTimer is restarted (R138, R139). -/
def State.sendAck (s : State) : State :=
  let k := s.link
  (s.setLink { k with
    due := { k.due with ack := false }
    ackPending := false
    ackRefresh := false
    reportedTotals := s.totals
    refreshTimer := some k.refreshPeriod }).transmit (.ack k.expectedSeq s.totals)

/-- ACK (R138). -/
def execAck (s : State) : Result :=
  onChoice s fun c => match c with
    | .ack => some s.sendAck
    | _ => none

/-- The NAK as chosen, carrying E: ackPending becomes no, and an ACK due because of ackPending alone is withdrawn; one
that a changed total or a refresh expiry keeps due stays (R135, R140). -/
def State.sendNak (s : State) : State :=
  let k := s.link
  (s.setLink { k with
    due := { k.due with nak := false, ack := k.due.ack && (k.ackRefresh || decide (s.totals ≠ k.reportedTotals)) }
    ackPending := false }).transmit (.nak k.expectedSeq)

/-- NAK (R135). -/
def execNak (s : State) : Result :=
  onChoice s fun c => match c with
    | .nak => some s.sendNak
    | _ => none

/-- The three initial totals (R132, R158). -/
def initialTotals : Totals := ⟨64, 128, 4⟩

/-- The SYNC-ACK as chosen, with the three initial totals; refreshTimer starts (R132, R139). -/
def State.sendSyncAck (s : State) : State :=
  let k := s.link
  (s.setLink { k with due := { k.due with syncAck := false }, refreshTimer := some k.refreshPeriod }).transmit
    (.syncAck initialTotals)

/-- SYNC_ACK (R132). -/
def execSyncAck (s : State) : Result :=
  onChoice s fun c => match c with
    | .syncAck => some s.sendSyncAck
    | _ => none

/-- The SYNC-REQUEST as chosen, carrying downCause (R131). -/
def State.sendSyncRequest (s : State) : State :=
  (s.setLink { s.link with due := { s.link.due with syncRequest := false } }).transmit (.syncRequest s.link.downCause)

/-- SYNC_REQUEST (R131). -/
def execSyncRequest (s : State) : Result :=
  onChoice s fun c => match c with
    | .syncRequest => some s.sendSyncRequest
    | _ => none

/-! ### RESEND (R145) -/

/-- The packet is the newest in the buffer. -/
def LinkPort.isNewest (k : LinkPort) (p : SeqPacket) : Bool := decide (k.replayBuffer.getLast? = some p)

/-- A replayed packet as chosen: sent again unchanged, replayPointer advances, and the replay ends when it is the newest
in the buffer (R145). -/
def State.resendPacket (s : State) (p : SeqPacket) : State :=
  let k := s.link
  (s.setLink { k with
    replayPointer := k.replayPointer + 1
    replayInProgress := !k.isNewest p }).transmit (.sequenced p)

/-- RESEND (R145). -/
def execResend (s : State) : Result :=
  onChoice s fun c => match c with
    | .resend p => some (s.resendPacket p)
    | _ => none

/-! ### CFG_REPLY, NOTICE and ATTN (R105, R114, R121, R166) -/

/-- The reply at the head of the management reply list enters the replay buffer, is removed, and one management credit
is granted (R105, R156, R166). -/
def State.sendCfgReply (s : State) (r : CfgReply) : State :=
  { s.enterReplayBuffer (.cfgReply r) with replies := s.replies.tail }.grantCredits 0 0 1

/-- CFG_REPLY (R166). -/
def execCfgReply (s : State) : Result :=
  onChoice s fun c => match c with
    | .cfgReply r => some (s.sendCfgReply r)
    | _ => none

/-- The notice at the head of the queue enters the replay buffer and is removed; no credit is granted (R105, R114). -/
def State.sendNotice (s : State) (n : Notice) : State :=
  { s.enterReplayBuffer (.notice n) with notices := s.notices.tail }

/-- NOTICE (R114). -/
def execNotice (s : State) : Result :=
  onChoice s fun c => match c with
    | .notice n => some (s.sendNotice n)
    | _ => none

/-- An ATTN with its repeats enters the replay buffer and the record becomes SENT (R121). -/
def State.sendAttn (s : State) (e : EndpointId) : State :=
  (s.enterReplayBuffer (.attn e s.attn[e].repeats)).setAttn e { s.attn[e] with state := .sent, fence := none }

/-- ATTN (R121). -/
def execAttn (s : State) : Result :=
  onChoice s fun c => match c with
    | .attn e => some (s.sendAttn e)
    | _ => none

/-! ### READ_DATA and WRITE_DONE (R99, R100, R105, R106) -/

/-- The reply of a slot, built from its fields and blocks as they stand (R99 to R101). A slot with status NONE is in
neither list; its reply's status reads OK. -/
def State.slotReply (s : State) (i : SlotId) : SeqBody :=
  let sl := s.slots[i]
  match sl.direction with
  | .read => .readData sl.tag (sl.status.getD .ok) (readBeats sl.blocks sl.beatsDone s.pool)
  | .write => .writeDone sl.tag (sl.status.getD .ok) sl.beatsDone

/-- The head of the immediate list is answered: its reply enters the replay buffer, the slot leaves the list and is
freed, and one request credit is granted (R62, R105). -/
def State.sendImmediate (s : State) (i : SlotId) : State :=
  ({ s.enterReplayBuffer (s.slotReply i) with immediate := s.immediate.tail }.freeSlot i).grantCredits 1
    s.slots[i].blocks.length 0

/-- The head of endpoint e's completion list is answered: its reply enters the replay buffer, the slot leaves the list
and is freed, one request credit and a data credit per block are granted, every fence that names the slot is cleared,
and nextCompletion moves past e (R62, R105, R106, R120). -/
def State.sendCompletion (s : State) (e : EndpointId) (i : SlotId) : State :=
  ((({ s.enterReplayBuffer (s.slotReply i) with nextCompletion := e + 1 }.setCompletion e s.completions[e].tail).freeSlot
    i).clearFences i).grantCredits 1 s.slots[i].blocks.length 0

/-- Answering the slot chosen, when it is of this direction. -/
def State.sendSlotReply (s : State) (d : Direction) (c : Candidate) : Option State :=
  match c with
  | .immediate i => if s.slots[i].direction = d then some (s.sendImmediate i) else none
  | .completion e i => if s.slots[i].direction = d then some (s.sendCompletion e i) else none
  | _ => none

/-- READ_DATA (R99). -/
def execReadData (s : State) : Result := onChoice s (s.sendSlotReply .read)

/-- WRITE_DONE (R100). -/
def execWriteDone (s : State) : Result := onChoice s (s.sendSlotReply .write)

/-! ### TRANSMISSION_END (R102) -/

/-- TRANSMISSION_END: the transmission on TLTX ends and the transmitter becomes FREE (R102). -/
def execTransmissionEnd (s : State) : Result := unlessHeld s (.next { s with transmitter := .free })

end Sys2Proof.Machine
end

