-- ==== Sys2Proof/Machine/Windows.lean ====
section
/-! DEFINITION. The Window Table (chapter 1): lookup and the checks against a matched window (R3, R4), the translation
snapshot (R5), and the meanings of COMMIT_WINDOW, CLEAR_WINDOW and FETCH_WINDOW. -/

namespace Sys2Proof.Machine

/-! ### Lookup (R3, R4) and the snapshot (R5) -/

/-- The last byte address of a range of 2^sizeLog bytes from `base` (R3). -/
def lastOfRange (base : Word) (sizeLog : BitVec 5) : Nat := base.toNat + 2 ^ sizeLog.toNat - 1

/-- A valid entry whose range contains the byte address `a` (R3). -/
def WindowEntry.contains (x : WindowEntry) (a : Word) : Bool :=
  x.valid && decide (x.base.toNat ≤ a.toNat) && decide (a.toNat ≤ lastOfRange x.base x.sizeLog)

/-- The valid entry whose range contains the request's first byte address (R3). No two valid entries share an address
(R14), so the search order decides nothing. -/
def State.lookup (s : State) (a : Word) : Option WindowId :=
  (List.finRange 32).find? fun w => s.windows[w].contains a

/-- The request lies wholly inside the window (R4). -/
def WindowEntry.holdsWhole (x : WindowEntry) (m : MemRequest) : Bool :=
  decide (m.address.toNat + 4 * m.length.toNat - 1 ≤ lastOfRange x.base x.sizeLog)

/-- The window allows the request's direction and class (R4). -/
def WindowEntry.allows (x : WindowEntry) (m : MemRequest) : Bool :=
  (match m.direction with
    | .read => x.readAllowed
    | .write => x.writeAllowed) &&
    (!x.privilegedOnly || decide (m.cls = .privileged))

/-- The translation snapshot of a request accepted through entry `w` (R5). -/
def WindowEntry.snapshot (x : WindowEntry) (w : WindowId) (m : MemRequest) : Snapshot :=
  let off := m.address.toNat - x.base.toNat
  let cmd := match m.direction with
    | .read => x.readCmd
    | .write => x.writeCmd
  let dummy := match m.direction with
    | .read => x.dummy
    | .write => 0
  match x.kind with
  | .register => ⟨w, .register, x.endpoint, cmd, x.addrWidth, off / 4 + x.addrBase.toNat, dummy⟩
  | .block => ⟨w, .block, x.endpoint, cmd, x.addrWidth, off + x.addrBase.toNat, dummy⟩
  | .stream => ⟨w, .stream, x.endpoint, none, 0, 0, 0⟩

/-! ### COMMIT_WINDOW (R12 to R14) -/

/-- The largest value a request through the window can send (R13). -/
def largestValue (kind : WindowKind) (sizeLog : BitVec 5) (addrBase : Word) : Nat :=
  match kind with
  | .register => 2 ^ sizeLog.toNat / 4 - 1 + addrBase.toNat
  | .block => 2 ^ sizeLog.toNat - 1 + addrBase.toNat
  | .stream => 0

/-- The fit check: with an address phase, the largest value does not exceed the capacity of addrWidth bytes (R13). -/
def fits (kind : WindowKind) (sizeLog : BitVec 5) (addrBase : Word) (addrWidth : BitVec 3) : Bool :=
  decide (addrWidth = 0) || decide (largestValue kind sizeLog addrBase ≤ 2 ^ (8 * addrWidth.toNat) - 1)

/-- Two ranges share an address (R14). -/
def rangesMeet (base1 : Word) (size1 : BitVec 5) (base2 : Word) (size2 : BitVec 5) : Bool :=
  decide (base1.toNat ≤ lastOfRange base2 size2) && decide (base2.toNat ≤ lastOfRange base1 size1)

/-- The overlap check: a valid entry other than `w` shares an address with the range (R14). -/
def State.overlapsOther (s : State) (w : WindowId) (base : Word) (sizeLog : BitVec 5) : Bool :=
  (List.finRange 32).any fun v =>
    decide (v ≠ w) && s.windows[v].valid && rangesMeet base sizeLog s.windows[v].base s.windows[v].sizeLog

/-- The entry the staged fields make, marked valid. -/
def StagedFields.entry (f : StagedFields) (kind : WindowKind) (e : EndpointId) : WindowEntry :=
  { valid := true, base := f.base, sizeLog := f.sizeLog, kind := kind, endpoint := e, readAllowed := f.readAllowed,
    writeAllowed := f.writeAllowed, privilegedOnly := f.privilegedOnly, posted := f.posted, readCmd := f.readCmd,
    writeCmd := f.writeCmd, addrWidth := f.addrWidth, addrBase := f.addrBase, dummy := f.dummy }

/-- COMMIT-WINDOW w: the eight checks in order; the first that fails decides the status and changes nothing, and when
all pass the entry is installed as valid (R12). -/
def commitWindow (w : WindowId) (s : State) : CfgStatus × State :=
  let f := stagedFields s.staging
  if f.sizeLog.toNat < 8 ∨ 24 < f.sizeLog.toNat then (.range, s)
  else if f.base.toNat % 2 ^ f.sizeLog.toNat ≠ 0 then (.range, s)
  else
    match windowKindOfCode f.kindCode with
    | none => (.range, s)
    | some kind =>
      if h : f.endpoint.toNat < 16 then
        if kind ≠ .stream ∧ 4 < f.addrWidth.toNat then (.range, s)
        else if kind = .register ∧ f.readCmd = none ∧ f.writeCmd = none ∧ f.addrWidth = 0 then (.range, s)
        else if kind ≠ .stream ∧ fits kind f.sizeLog f.addrBase f.addrWidth = false then (.range, s)
        else if s.overlapsOther w f.base f.sizeLog then (.overlap, s)
        else (.ok, s.setWindow w (f.entry kind ⟨f.endpoint.toNat, h⟩))
      else (.range, s)

/-- COMMIT_WINDOW (R12). -/
def execCommitWindow (s : State) : Result :=
  unlessHeld s (takeCommand s codeCommitWindow (onWindow commitWindow))

/-! ### CLEAR_WINDOW (R15) and FETCH_WINDOW (R16) -/

/-- CLEAR-WINDOW w: the entry is marked invalid and keeps its other fields (R15). -/
def clearWindow (w : WindowId) (s : State) : CfgStatus × State :=
  (.ok, s.setWindow w { s.windows[w] with valid := false })

/-- CLEAR_WINDOW (R15). -/
def execClearWindow (s : State) : Result :=
  unlessHeld s (takeCommand s codeClearWindow (onWindow clearWindow))

/-- FETCH-WINDOW w: all eight staging words are written from the entry's fields, every other bit 0, bit 31 of word 1
among them (R16, R177). -/
def fetchWindow (w : WindowId) (s : State) : CfgStatus × State :=
  (.ok, { s with staging := tabulate fun k => { s.windows[w] with valid := false }.word k.val })

/-- FETCH_WINDOW (R16). -/
def execFetchWindow (s : State) : Result :=
  unlessHeld s (takeCommand s codeFetchWindow (onWindow fetchWindow))

end Sys2Proof.Machine
end

