-- ==== Sys2Proof/Machine/Requests.lean ====
section
/-! DEFINITION. The Request Decoder (chapter 3.4): the six checks (R53), acceptance (R55) and the two refusals (R56,
R57), and the meanings of MEM_READ and MEM_WRITE. -/

namespace Sys2Proof.Machine

/-- How the checks of R53 come out: the request passes with the entry it matched, or the first check that fails gives
the refusal status, with the matched entry when there was one. -/
inductive Verdict where
  | accepted (w : WindowId)
  | refused (status : MemStatus) (matched : Option WindowId)
  deriving DecidableEq, Repr

/-- Check 5's status for an endpoint's state; none when it is ACTIVE (R53). -/
def EpState.refusal : EpState → Option MemStatus
  | .active => none
  | .disabled => some .epDisabled
  | .draining => some .epDisabled
  | .stopping => some .epDisabled
  | .halted => some .epHalted

/-- The six checks in order; the first that fails decides (R53). -/
def State.check (s : State) (m : MemRequest) : Verdict :=
  if memLengthOk m.length = false ∨ m.address.toNat % 4 ≠ 0 then .refused .align none
  else
    match s.lookup m.address with
    | none => .refused .unmapped none
    | some w =>
      let x := s.windows[w]
      if x.holdsWhole m = false then .refused .align (some w)
      else if x.allows m = false then .refused .denied (some w)
      else
        match s.endpoints[x.endpoint].state.refusal with
        | some status => .refused status (some w)
        | none =>
          if s.outstanding x.endpoint < s.endpoints[x.endpoint].maxOutstanding.toNat then .accepted w
          else .refused .busy (some w)

/-- Accepting a request into slot `i` through entry `w`, in one step (R55): the lowest-numbered free blocks in rising
order (R50), a write's beats copied in (R51), the snapshot and posted field (R5, R11), and the slot QUEUED at the tail
of the endpoint's queue. -/
def accept (m : MemRequest) (w : WindowId) (i : SlotId) (s : State) : Result :=
  let x := s.windows[w]
  let n := blocksFor m.length.toNat
  if s.freeBlocks.length < n then .fault .noFreeBlock
  else
    let bl := s.freeBlocks.take n
    let slot : Slot :=
      { state := .queued, tag := m.tag, cls := m.cls, direction := m.direction,
        posted := decide (m.direction = .write) && x.posted, length := m.length, beatsDone := 0, blocks := bl,
        translation := some (x.snapshot w m), status := none }
    let s1 := { s.setSlot i slot with
      freeBlocks := s.freeBlocks.drop n
      pool := match m.direction with
        | .read => s.pool
        | .write => writeBeats bl 0 m.beats s.pool }
    .next (s1.setQueue x.endpoint (s.queues[x.endpoint] ++ [i]))

/-- The slot of a refused request: no blocks and no translation, beatsDone 0 (R56, R57). -/
def refusedSlot (m : MemRequest) (status : MemStatus) (posted : Bool) (state : SlotState) : Slot :=
  { state := state, tag := m.tag, cls := m.cls, direction := m.direction, posted := posted, length := m.length,
    beatsDone := 0, blocks := [], translation := none, status := some status }

/-- Refusing a non-posted request into slot `i`: COMPLETE at the tail of the immediate list, the data credits it needed
granted back at once (R56). -/
def refuseNonPosted (m : MemRequest) (status : MemStatus) (i : SlotId) (s : State) : State :=
  { s.setSlot i (refusedSlot m status false .complete) with immediate := s.immediate ++ [i] }.grantCredits 0
    (dataCreditsFor m.length) 0

/-- Refusing a posted write: slot `i` is taken and freed in the one step, a POSTED_FAIL notice is created, and its
request credit and the data credits it needed are granted back (R57). -/
def refusePosted (m : MemRequest) (status : MemStatus) (e : EndpointId) (i : SlotId) (s : State) : State :=
  ((s.setSlot i (refusedSlot m status true .free)).addNotice (.postedFail e m.tag status 0)).grantCredits 1
    (dataCreditsFor m.length) 0

/-- Refusing a request: a write that matched a posted window is posted, every other request is non-posted (R54). -/
def refuse (m : MemRequest) (status : MemStatus) (matched : Option WindowId) (i : SlotId) (s : State) : State :=
  match m.direction, matched with
  | .write, some w =>
    if s.windows[w].posted then refusePosted m status s.windows[w].endpoint i s else refuseNonPosted m status i s
  | .write, none => refuseNonPosted m status i s
  | .read, _ => refuseNonPosted m status i s

/-- The Request Decoder takes a request (R52): the lowest-numbered free slot (R44), the checks, and then acceptance or
refusal. -/
def takeRequest (m : MemRequest) (s : State) : Result :=
  match s.lowestFreeSlot with
  | none => .fault .noFreeSlot
  | some i =>
    match s.check m with
    | .accepted w => accept m w i s
    | .refused status matched => .next (refuse m status matched i s)

/-- Taking the oldest MEM packet handed on, when it is of this direction (R52). When no such packet stands first, the
event does not occur and the state stays as it is (assumption 2). -/
def takeMem (d : Direction) (s : State) : Result :=
  match s.memHanded with
  | [] => .next s
  | m :: rest => if m.direction = d then takeRequest m { s with memHanded := rest } else .next s

/-- MEM_READ: the Request Decoder takes a MEM-READ (R53). -/
def execMemRead (s : State) : Result := unlessHeld s (takeMem .read s)

/-- MEM_WRITE: the Request Decoder takes a MEM-WRITE (R54). -/
def execMemWrite (s : State) : Result := unlessHeld s (takeMem .write s)

end Sys2Proof.Machine
end

