-- ==== Sys2Proof/Machine/Reset.lean ====
section
/-! DEFINITION. RESET_N (R171): the meanings of RESET_N_ASSERT and RESET_N_RELEASE. -/

namespace Sys2Proof.Machine

/-- RESET_N_ASSERT: RESET_N goes low. Every block holds its device-reset values, the part is held there, and every timer
is stopped (R171). -/
def execResetNAssert (s : State) : Result :=
  let t := s.deviceReset
  .next { t with resetHeld := true, link := { t.link with requestTimer := none } }

/-- RESET_N_RELEASE: RESET_N goes high. The part leaves device reset with the link DOWN, a SYNC-REQUEST due at once and
requestTimer running (R149, R171). When RESET_N is already high there is nothing to leave. -/
def execResetNRelease (s : State) : Result :=
  if s.resetHeld then
    .next { s with
      resetHeld := false
      link := { s.link with
        due := { s.link.due with syncRequest := true }
        requestTimer := some s.link.replayPeriod } }
  else .next s

end Sys2Proof.Machine
end

