-- ==== Sys2Proof/Machine/Dispatch.lean ====
section
/-! DEFINITION. One arm per command: the effect of a command on everything but the queue of commands that wait. -/

namespace Sys2Proof.Machine

/-- A command's effect (spec/95_what_each_step_holds.md: each step is whole and indivisible). -/
def exec (i : Instr) (s : State) : Host.Outcome State Fault Refusal :=
  match i with
  | .badPacket f => Sys2Proof.Machine.execBadPacket f s
  | .sequencedPacket f => Sys2Proof.Machine.execSequencedPacket f s
  | .hostAck f => Sys2Proof.Machine.execHostAck f s
  | .hostNak f => Sys2Proof.Machine.execHostNak f s
  | .sync f => Sys2Proof.Machine.execSync f s
  | .memRead => Sys2Proof.Machine.execMemRead s
  | .memWrite => Sys2Proof.Machine.execMemWrite s
  | .cfgRead => Sys2Proof.Machine.execCfgRead s
  | .cfgWrite => Sys2Proof.Machine.execCfgWrite s
  | .attentionAcknowledge => Sys2Proof.Machine.execAttentionAcknowledge s
  | .commitWindow => Sys2Proof.Machine.execCommitWindow s
  | .clearWindow => Sys2Proof.Machine.execClearWindow s
  | .fetchWindow => Sys2Proof.Machine.execFetchWindow s
  | .enableEndpoint => Sys2Proof.Machine.execEnableEndpoint s
  | .disableEndpoint => Sys2Proof.Machine.execDisableEndpoint s
  | .abortEndpoint => Sys2Proof.Machine.execAbortEndpoint s
  | .resumeEndpoint => Sys2Proof.Machine.execResumeEndpoint s
  | .clearCounters => Sys2Proof.Machine.execClearCounters s
  | .deviceReset => Sys2Proof.Machine.execDeviceReset s
  | .unknownCommand => Sys2Proof.Machine.execUnknownCommand s
  | .ack => Sys2Proof.Machine.execAck s
  | .nak => Sys2Proof.Machine.execNak s
  | .syncAck => Sys2Proof.Machine.execSyncAck s
  | .syncRequest => Sys2Proof.Machine.execSyncRequest s
  | .resend => Sys2Proof.Machine.execResend s
  | .cfgReply => Sys2Proof.Machine.execCfgReply s
  | .notice => Sys2Proof.Machine.execNotice s
  | .attn => Sys2Proof.Machine.execAttn s
  | .readData => Sys2Proof.Machine.execReadData s
  | .writeDone => Sys2Proof.Machine.execWriteDone s
  | .transmissionEnd => Sys2Proof.Machine.execTransmissionEnd s
  | .replayTimerExpiry => Sys2Proof.Machine.execReplayTimerExpiry s
  | .refreshTimerExpiry => Sys2Proof.Machine.execRefreshTimerExpiry s
  | .requestTimerExpiry => Sys2Proof.Machine.execRequestTimerExpiry s
  | .grant lane => Sys2Proof.Machine.execGrant lane s
  | .readySeen lane => Sys2Proof.Machine.execReadySeen lane s
  | .readyTimeout lane => Sys2Proof.Machine.execReadyTimeout lane s
  | .phaseEnd lane => Sys2Proof.Machine.execPhaseEnd lane s
  | .wordComplete lane din => Sys2Proof.Machine.execWordComplete lane din s
  | .release lane => Sys2Proof.Machine.execRelease lane s
  | .gapEnd lane => Sys2Proof.Machine.execGapEnd lane s
  | .attentionSample levels => Sys2Proof.Machine.execAttentionSample levels s
  | .resetNAssert => Sys2Proof.Machine.execResetNAssert s
  | .resetNRelease => Sys2Proof.Machine.execResetNRelease s

end Sys2Proof.Machine
end

