-- ==== Sys2Proof/WellFormed.lean ====
section
/-! DEFINITION. When a command names an event that can reach the part: an arrival's frame is of the kind its name
says. Every other operand is of a type that holds only legal values. -/

namespace Sys2Proof

/-- The frame of an arrival is what the row's name says it is (R128, R129). The machine leaves the state as it is on
an arrival that is not well formed: such an event does not occur (assumption 2). -/
def Instr.wellFormed : Instr → Bool
  | .badPacket f => match f.arrival with
    | .bad => true
    | _ => false
  | .sequencedPacket f => match f.arrival with
    | .sequenced _ => true
    | _ => false
  | .hostAck f => match f.arrival with
    | .ack _ => true
    | _ => false
  | .hostNak f => match f.arrival with
    | .nak _ => true
    | _ => false
  | .sync f => match f.arrival with
    | .sync _ => true
    | _ => false
  | _ => true

end Sys2Proof
end

