-- ==== Sys2Proof/Safety.lean ====
section
/-! DEFINITION. What a safe run of the part is: the laws the manual states of it ("the law of the part holds") and of its
tables, as predicates on states, and a step that does not fault. -/

namespace Sys2Proof.Machine

/-! ### Windows (R1, R12 to R14) -/

/-- A valid entry satisfies the COMMIT-WINDOW checks on its own fields (R1, R12, R13). -/
def WindowEntry.lawful (x : WindowEntry) : Prop :=
  8 ≤ x.sizeLog.toNat ∧ x.sizeLog.toNat ≤ 24 ∧ x.base.toNat % 2 ^ x.sizeLog.toNat = 0 ∧
    (x.kind ≠ .stream → x.addrWidth.toNat ≤ 4 ∧ fits x.kind x.sizeLog x.addrBase x.addrWidth = true) ∧
    (x.kind = .register → x.readCmd ≠ none ∨ x.writeCmd ≠ none ∨ 1 ≤ x.addrWidth.toNat)

/-- The Window Table's law: every valid entry is lawful, and no two valid entries cover a common address (R14). -/
def State.windowLaw (s : State) : Prop :=
  (∀ w : WindowId, s.windows[w].valid = true → s.windows[w].lawful) ∧
    ∀ v w : WindowId, v ≠ w → s.windows[v].valid = true → s.windows[w].valid = true →
      rangesMeet s.windows[v].base s.windows[v].sizeLog s.windows[w].base s.windows[w].sizeLog = false

/-! ### The Transfer Link (R130, R131, R138 to R147) -/

/-- The packets stand with consecutive sequence numbers from `a`, and `b` is the number after the last (R141). -/
def numbered (a : SeqNum) : List SeqPacket → SeqNum → Prop
  | [], b => a = b
  | p :: t, b => p.seq = a ∧ numbered (a + 1) t b

/-- The replay buffer's law: at most 16 packets, their numbers consecutive modulo 128, oldest first, up to outboundNext
(R141). -/
def LinkPort.bufferLaw (k : LinkPort) : Prop :=
  k.replayBuffer.length ≤ Config.replayPlaces ∧ numbered k.oldestSeq k.replayBuffer k.outboundNext

/-- What may be due and what may run in each link state (R131, R139, R140), and a replay's pointer (R145, R146). -/
def LinkPort.stateLaw (k : LinkPort) : Prop :=
  (k.linkState = .down →
      k.due.syncAck = false ∧ k.due.nak = false ∧ k.due.ack = false ∧ k.replayTimer = none ∧ k.refreshTimer = none ∧
        k.replayInProgress = false) ∧
    (k.linkState = .up → k.due.syncRequest = false ∧ k.requestTimer = none) ∧
    (k.replayBuffer = [] → k.replayTimer = none) ∧
    (k.replayInProgress = true → k.replayPacket.isSome = true) ∧ k.replayCount ≤ Config.maxReplays

/-- While the link is UP, an unacknowledged packet or an unreported total keeps an ACK due (R138). -/
def State.ackLaw (s : State) : Prop :=
  s.link.linkState = .up →
    (s.link.ackPending = true → s.link.due.ack = true) ∧ (s.totals ≠ s.link.reportedTotals → s.link.due.ack = true)

/-- The link's law; while RESET_N is low the link is DOWN (R149, R171). -/
def State.linkLaw (s : State) : Prop :=
  s.link.bufferLaw ∧ s.link.stateLaw ∧ s.ackLaw ∧ (s.resetHeld = true → s.link.linkState = .down)

/-! ### Lanes and endpoints (R27, R86, R95) -/

/-- An engine inside a transaction serves one endpoint of its lane, which is ACTIVE, DRAINING or STOPPING, with that
endpoint's select asserted and no other; an engine outside one asserts none (R86, R95). In WAIT_READY no cut is in hand
and the endpoint is not STOPPING (R93). -/
def State.engineLawful (s : State) (l : LaneId) : Prop :=
  if s.engines[l].inTransaction then
    ∃ e : EndpointId, s.engines[l].currentEndpoint = some e ∧ s.endpoints[e].lane = l ∧
      s.engines[l].selects = selectAsserted s.endpoints[e].select ∧
      (s.endpoints[e].state = .active ∨ s.endpoints[e].state = .draining ∨ s.endpoints[e].state = .stopping) ∧
      (s.engines[l].engineState = .waitReady → s.engines[l].cut = .none ∧ s.endpoints[e].state ≠ .stopping)
  else s.engines[l].selects = selectsReleased

/-- The lanes' law (R86), and the Endpoint Table's: no two endpoints that are not DISABLED have the same lane and select
(R27). -/
def State.laneLaw (s : State) : Prop :=
  (∀ l : LaneId, s.engineLawful l) ∧
    ∀ d e : EndpointId, d ≠ e → s.endpoints[d].state ≠ .disabled → s.endpoints[e].state ≠ .disabled →
      s.endpoints[d].lane = s.endpoints[e].lane → s.endpoints[d].select ≠ s.endpoints[e].select

/-! ### Attention records (R115, R119, R120, R125) -/

/-- The records' law: IDLE with no fence and repeats 0 whenever the endpoint is DISABLED; a fence only while PENDING, and
then naming a slot of the endpoint's completion list; repeats 0 in IDLE. -/
def State.attnLaw (s : State) : Prop :=
  ∀ e : EndpointId,
    (s.endpoints[e].state = .disabled → s.attn[e] = .idle) ∧ (s.attn[e].state = .idle → s.attn[e] = .idle) ∧
      (∀ i : SlotId, s.attn[e].fence = some i → s.attn[e].state = .pending ∧ i ∈ s.completions[e])

/-! ### Queues that do not overflow (R111, R157, R166) -/

/-- The notice queue holds at most 8 notices (R111). -/
def State.noticeLaw (s : State) : Prop := s.notices.length ≤ Config.noticePlaces

/-- While the link is UP, management credits available equal four less the CFG requests between the credit check and
their replies' entry; while DOWN there are none of those (R148, R157, R166). -/
def State.managementLaw (s : State) : Prop :=
  (s.link.linkState = .up →
      s.credits.management.available + s.cfgHanded.length + s.replies.length = Config.replyPlaces) ∧
    (s.link.linkState = .down → s.cfgHanded = [] ∧ s.replies = [])

/-! ### Slots, blocks and their credits (R42, R43, R50, R157) -/

/-- The number of FREE slots. -/
def State.freeSlots (s : State) : Nat := (List.finRange 64).countP fun i => decide (s.slots[i].state = .free)

/-- The slot's translation names this endpoint. -/
def Slot.translatesTo (sl : Slot) (e : EndpointId) : Bool :=
  match sl.translation with
  | some t => decide (t.endpoint = e)
  | none => false

/-- The collections' law: every list holds no slot twice; a queue holds QUEUED and ACTIVE slots of its endpoint, a
completion list its COMPLETE slots, the immediate list COMPLETE slots without a translation or blocks; and a slot in no
list is FREE (R43, R48). -/
def State.collectionLaw (s : State) : Prop :=
  (∀ e : EndpointId,
      s.queues[e].Nodup ∧ s.completions[e].Nodup ∧
        (∀ i ∈ s.queues[e], (s.slots[i].state = .queued ∨ s.slots[i].state = .active) ∧
          s.slots[i].translatesTo e = true) ∧
        (∀ i ∈ s.completions[e], s.slots[i].state = .complete ∧ s.slots[i].translatesTo e = true)) ∧
    s.immediate.Nodup ∧
    (∀ i ∈ s.immediate, s.slots[i].state = .complete ∧ s.slots[i].translation = none ∧ s.slots[i].blocks = []) ∧
    ∀ i : SlotId, s.slots[i].state = .free ∨ i ∈ s.immediate ∨ ∃ e : EndpointId, i ∈ s.queues[e] ∨ i ∈ s.completions[e]

/-- An engine with a slot in hand is inside a transaction, and the slot is ACTIVE at the head of the queue of the endpoint
the engine serves (R40, R45, R65). -/
def State.handLaw (s : State) : Prop :=
  ∀ (l : LaneId) (i : SlotId), s.engines[l].currentSlot = some i →
    s.engines[l].inTransaction = true ∧ s.slots[i].state = .active ∧
      ∃ e : EndpointId, s.engines[l].currentEndpoint = some e ∧ s.endpoints[e].lane = l ∧ s.queues[e].head? = some i

/-- The Block Pool's law: the free set stands in rising order, and each block is free or held by exactly one slot, once;
a FREE slot holds none (R50). -/
def State.blockLaw (s : State) : Prop :=
  s.freeBlocks.Pairwise (· < ·) ∧ (∀ i : SlotId, s.slots[i].blocks.Nodup) ∧
    (∀ i : SlotId, s.slots[i].state = .free → s.slots[i].blocks = []) ∧
    (∀ (i : SlotId), ∀ b ∈ s.slots[i].blocks, b ∉ s.freeBlocks ∧ ∀ j : SlotId, b ∈ s.slots[j].blocks → j = i) ∧
    ∀ b : BlockId, b ∈ s.freeBlocks ∨ ∃ i : SlotId, b ∈ s.slots[i].blocks

/-- While the link is UP, request credits available and packets handed on together equal the FREE slots, and data credits
available and those of the packets handed on together equal the free blocks; while DOWN no packet is handed on, every
slot is FREE and every block is free (R148, R157). -/
def State.creditLaw (s : State) : Prop :=
  (s.link.linkState = .up →
      s.credits.request.available + s.memHanded.length = s.freeSlots ∧
        s.credits.data.available + (s.memHanded.map fun m => dataCreditsFor m.length).sum = s.freeBlocks.length) ∧
    (s.link.linkState = .down → s.memHanded = [] ∧ s.freeSlots = 64 ∧ s.freeBlocks.length = 128)

/-- The Slot Table's law: collections, the slot in hand, blocks and credits together. -/
def State.slotLaw (s : State) : Prop := s.collectionLaw ∧ s.handLaw ∧ s.blockLaw ∧ s.creditLaw

/-- An endpoint that is DISABLED has an empty queue (section 2.3, R26). -/
def State.queueLaw (s : State) : Prop := ∀ e : EndpointId, s.endpoints[e].state = .disabled → s.queues[e] = []

/-! ### A safe step -/

/-- The outcome is a next state. -/
def completes (r : Host.Outcome State Fault Refusal) : Prop := ∃ t, r = .next t

/-- Every law of the part. -/
def State.law (s : State) : Prop :=
  s.windowLaw ∧ s.linkLaw ∧ s.laneLaw ∧ s.attnLaw ∧ s.noticeLaw ∧ s.managementLaw ∧ s.slotLaw ∧ s.queueLaw

/-! ### Terms of the statements: what arrives -/

/-- A host request's header word (chapter 11.1), its reserved bits 19:16 holding any value (R174). -/
def requestHeader (kind : BitVec 4) (seq : SeqNum) (cls : ReqClass) (reserved : BitVec 4) (tag : Byte)
    (length : BitVec 8) : Word :=
  kind ++ seq ++ (if cls = .privileged then 1#1 else 0#1) ++ reserved ++ tag ++ length

/-- A MEM request is self-consistent: a read carries no beats; a write carries exactly length beats, or none when its
length lies outside 1 to 64 (R136). -/
def MemConsistent (m : MemRequest) : Prop :=
  match m.direction with
  | .read => m.beats = []
  | .write =>
    if 1 ≤ m.length.toNat ∧ m.length.toNat ≤ 64 then m.beats.length = m.length.toNat else m.beats = []

/-- A CFG request is self-consistent: its length is 1 to 16, and a write carries exactly length words (R136). -/
def CfgConsistent (c : CfgRequest) : Prop :=
  1 ≤ c.length.toNat ∧ c.length.toNat ≤ 16 ∧
    match c.direction with
    | .read => c.data = []
    | .write => c.data.length = c.length.toNat

/-- The Link Port's record when a packet has been accepted in sequence: E has advanced, the packet is to be acknowledged,
nakSent is no and a NAK due is withdrawn (R134, R135). -/
def LinkPort.afterAcceptance (k : LinkPort) : LinkPort :=
  { k with expectedSeq := k.expectedSeq + 1, ackPending := true, nakSent := false,
           due := { k.due with nak := false, ack := true } }

/-- Command `c` causes a link reset in state `s` (R148): a good SYNC on an UP link; or a replay that would start at a
replayCount of 4, by the expiry of replayTimer or by a NAK that removes nothing. -/
def State.LinkResetBy (s : State) (c : Instr) : Prop :=
  s.resetHeld = false ∧ s.link.linkState = .up ∧
    ((∃ (f : Frame) (p : HostPacket), c = .sync f ∧ f.arrival = .sync p ∧ p.rest = [] ∧
        p.header.extractLsb' 0 28 = 0) ∨
      (c = .replayTimerExpiry ∧ s.link.replayTimer ≠ none ∧ 4 ≤ s.link.replayCount) ∨
      ∃ (f : Frame) (p : HostPacket), c = .hostNak f ∧ f.arrival = .nak p ∧ p.rest = [] ∧
        p.header.extractLsb' 0 21 = 0 ∧ p.seq = s.link.oldestSeq ∧ s.link.replayBuffer ≠ [] ∧ 4 ≤ s.link.replayCount)

/-- The Link Port's record after a link failure (R147). -/
def LinkPort.afterFailure (k : LinkPort) : LinkPort :=
  { k with linkState := .down, downCause := .linkFailure, ackPending := false, nakSent := false,
           replayInProgress := false, replayCount := 0, replayTimer := none, refreshTimer := none,
           requestTimer := some (k.replayTimeout.toNat * 8), due := ⟨false, false, false, true⟩, ackRefresh := false }

/-! ### Terms of the statements: MEM requests -/

/-- Slot `i` is the lowest-numbered slot of the free pool (R44). -/
def State.LowestFree (s : State) (i : SlotId) : Prop :=
  s.slots[i].state = .free ∧ ∀ j : SlotId, j < i → s.slots[j].state ≠ .free

/-- Address `a` lies in the range of entry `w`, which is valid (R3). -/
def State.Covers (s : State) (w : WindowId) (a : Word) : Prop :=
  s.windows[w].valid = true ∧ s.windows[w].base.toNat ≤ a.toNat ∧
    a.toNat ≤ s.windows[w].base.toNat + 2 ^ s.windows[w].sizeLog.toNat - 1

/-- Checks 1 and 2: length and alignment hold and entry `w` is the valid entry that covers the first address (R3, R53). -/
def State.Matches (s : State) (m : MemRequest) (w : WindowId) : Prop :=
  1 ≤ m.length.toNat ∧ m.length.toNat ≤ 64 ∧ m.address.toNat % 4 = 0 ∧ s.Covers w m.address ∧
    ∀ v : WindowId, s.Covers v m.address → v = w

/-- Check 3: the request lies wholly inside entry `w` (R4). -/
def State.InsideWindow (s : State) (m : MemRequest) (w : WindowId) : Prop :=
  m.address.toNat + 4 * m.length.toNat - 1 ≤ s.windows[w].base.toNat + 2 ^ s.windows[w].sizeLog.toNat - 1

/-- Check 4: entry `w` allows the direction and the class (R4). -/
def State.Allowed (s : State) (m : MemRequest) (w : WindowId) : Prop :=
  (m.direction = .read → s.windows[w].readAllowed = true) ∧ (m.direction = .write → s.windows[w].writeAllowed = true) ∧
    (s.windows[w].privilegedOnly = true → m.cls = .privileged)

/-- Check 6: the outstanding count of endpoint `e` is below its maxOutstanding (R49, R53). -/
def State.HasRoom (s : State) (e : EndpointId) : Prop :=
  s.queues[e].length + s.completions[e].length < s.endpoints[e].maxOutstanding.toNat

/-- Every check passes through entry `w` (R53). -/
def State.Accepts (s : State) (m : MemRequest) (w : WindowId) : Prop :=
  s.Matches m w ∧ s.InsideWindow m w ∧ s.Allowed m w ∧ s.endpoints[s.windows[w].endpoint].state = .active ∧
    s.HasRoom s.windows[w].endpoint

/-- The first check that fails gives `status`, with the entry matched by then (R53). -/
def State.Refuses (s : State) (m : MemRequest) (status : MemStatus) (matched : Option WindowId) : Prop :=
  (status = .align ∧ matched = none ∧
      (m.length.toNat = 0 ∨ 64 < m.length.toNat ∨ m.address.toNat % 4 ≠ 0)) ∨
    (status = .unmapped ∧ matched = none ∧ 1 ≤ m.length.toNat ∧ m.length.toNat ≤ 64 ∧ m.address.toNat % 4 = 0 ∧
      ∀ v : WindowId, ¬ s.Covers v m.address) ∨
    ∃ w : WindowId, matched = some w ∧ s.Matches m w ∧
      ((status = .align ∧ ¬ s.InsideWindow m w) ∨
        (status = .denied ∧ s.InsideWindow m w ∧ ¬ s.Allowed m w) ∨
        (s.InsideWindow m w ∧ s.Allowed m w ∧
          ((status = .epHalted ∧ s.endpoints[s.windows[w].endpoint].state = .halted) ∨
            (status = .epDisabled ∧ s.endpoints[s.windows[w].endpoint].state ≠ .active ∧
              s.endpoints[s.windows[w].endpoint].state ≠ .halted) ∨
            (status = .busy ∧ s.endpoints[s.windows[w].endpoint].state = .active ∧
              ¬ s.HasRoom s.windows[w].endpoint))))

/-- The snapshot of a request accepted through entry `x` numbered `w` (R5). -/
def Snapshot.isOf (t : Snapshot) (w : WindowId) (x : WindowEntry) (m : MemRequest) : Prop :=
  t.window = w ∧ t.kind = x.kind ∧ t.endpoint = x.endpoint ∧
    (x.kind = .stream → t.cmd = none ∧ t.addrWidth = 0 ∧ t.firstValue = 0 ∧ t.dummy = 0) ∧
    (x.kind ≠ .stream →
      t.addrWidth = x.addrWidth ∧ (m.direction = .read → t.cmd = x.readCmd ∧ t.dummy = x.dummy) ∧
        (m.direction = .write → t.cmd = x.writeCmd ∧ t.dummy = 0)) ∧
    (x.kind = .register → t.firstValue = (m.address.toNat - x.base.toNat) / 4 + x.addrBase.toNat) ∧
    (x.kind = .block → t.firstValue = m.address.toNat - x.base.toNat + x.addrBase.toNat)

/-- The data credits a MEM packet needs: its length divided by 8, rounded up, when the length is 1 to 64, and none
otherwise (R52, R153). -/
def dataNeeded (m : MemRequest) : Nat :=
  if 1 ≤ m.length.toNat ∧ m.length.toNat ≤ 64 then (m.length.toNat + 7) / 8 else 0

/-- The command of a MEM request's direction. -/
def memCommand : Direction → Instr
  | .read => .memRead
  | .write => .memWrite

/-! ### Terms of the statements: CFG requests -/

/-- The Management Unit can take `r`: RESET_N is high, `r` is the oldest CFG request handed on, and the management reply
list has a place (R162, R166). -/
def State.TakesCfg (s : State) (r : CfgRequest) (rest : List CfgRequest) : Prop :=
  s.resetHeld = false ∧ s.cfgHanded = r :: rest ∧ s.replies.length < 4

end Sys2Proof.Machine

/-- `r` is a CFG-WRITE of length 1 to the command word with this code (R168, chapter 11.2). -/
def Sys2Proof.CfgRequest.Commands (r : Sys2Proof.CfgRequest) (code : Sys2Proof.Byte) : Prop :=
  r.direction = .write ∧ r.length = 1 ∧ r.start = 0x008#10 ∧ r.word0.extractLsb' 24 8 = code

namespace Sys2Proof.Machine

/-- The state once `r` is taken and its reply joins the management reply list (R162). -/
def State.afterReply (s : State) (r : CfgRequest) (rest : List CfgRequest) (status : CfgStatus)
    (offset : Option (BitVec 4)) (data : List Word) : State :=
  { s with cfgHanded := rest, replies := s.replies ++ [⟨r.tag, status, offset, data⟩] }

/-- The state once the command that `r` carries has been performed with this status, but for the command's own effects:
the reply joins its list and the last-command record is replaced (R165, R168). -/
def State.afterCommand (s : State) (r : CfgRequest) (rest : List CfgRequest) (status : CfgStatus) : State :=
  { s.afterReply r rest status (if status = .ok then none else some 0) [] with
    lastCommand := ⟨r.word0.extractLsb' 24 8, r.word0.extractLsb' 0 8, status⟩ }

/-- Word `i` of a CFG-WRITE of `length` words, given value `v`, fails with `status` (R24, R164, R178). -/
def State.WordFails (s : State) (length i : Nat) (v : Word) (status : CfgStatus) : Prop :=
  if i = 0x008 ∨ i = 0x00C then length ≠ 1 ∧ status = .range
  else if i = 0x004 then v.extractLsb' 0 8 = 0 ∧ status = .range
  else if 0x040 ≤ i ∧ i < 0x048 then False
  else if h : 0x200 ≤ i ∧ i < 0x300 then
    let d := s.endpoints[(i - 0x200) / 16]
    let k := (i - 0x200) % 16
    if k = 2 ∨ k = 3 then
      if d.state ≠ .disabled then status = .locked
      else if k = 2 then
        status = .range ∧
          ((v.extractLsb' 12 2).toNat > 1 ∨ (v.extractLsb' 14 2).toNat > 1 ∨ (v.extractLsb' 16 6).toNat < 4 ∨
            (v.extractLsb' 16 6).toNat > 32)
      else status = .range ∧ (v.extractLsb' 0 8).toNat < 2
    else if k = 4 then
      status = .range ∧
        (v.extractLsb' 0 8 = 0 ∨ (v.extractLsb' 8 5).toNat = 0 ∨ (v.extractLsb' 8 5).toNat > 16 ∨ v.extractLsb' 16 12 = 0)
    else if k = 5 then False
    else if k = 6 then status = .range ∧ 16 ≤ (v.extractLsb' 0 5).toNat ∧ (v.extractLsb' 0 5).toNat ≤ 30
    else status = .range
  else status = .range

/-- The staged fields pass checks 1 to 7 of COMMIT-WINDOW, as an entry of this kind for this endpoint (R12, R13). -/
def StagedFields.Pass (f : StagedFields) (kind : WindowKind) (e : EndpointId) : Prop :=
  8 ≤ f.sizeLog.toNat ∧ f.sizeLog.toNat ≤ 24 ∧ f.base.toNat % 2 ^ f.sizeLog.toNat = 0 ∧
    f.kindCode = BitVec.ofNat 2 kind.code ∧ f.endpoint.toNat = e.val ∧ (kind ≠ .stream → f.addrWidth.toNat ≤ 4) ∧
    (kind = .register → f.readCmd ≠ none ∨ f.writeCmd ≠ none ∨ 1 ≤ f.addrWidth.toNat) ∧
    (kind = .register → 1 ≤ f.addrWidth.toNat →
      2 ^ f.sizeLog.toNat / 4 - 1 + f.addrBase.toNat ≤ 2 ^ (8 * f.addrWidth.toNat) - 1) ∧
    (kind = .block → 1 ≤ f.addrWidth.toNat →
      2 ^ f.sizeLog.toNat - 1 + f.addrBase.toNat ≤ 2 ^ (8 * f.addrWidth.toNat) - 1)

/-- A valid entry other than `w` shares an address with the staged range (R14). -/
def State.Overlaps (s : State) (w : WindowId) (f : StagedFields) : Prop :=
  ∃ v : WindowId, v ≠ w ∧ ∃ a : Nat, s.windows[v].valid = true ∧
    (f.base.toNat ≤ a ∧ a ≤ f.base.toNat + 2 ^ f.sizeLog.toNat - 1) ∧
    (s.windows[v].base.toNat ≤ a ∧ a ≤ s.windows[v].base.toNat + 2 ^ s.windows[v].sizeLog.toNat - 1)

/-! ### Terms of the statements: endpoints and attentions -/

/-- The lane engine of e's lane is inside a transaction for e: WAIT_READY or SHIFTING with e as its current endpoint
(R30). -/
def State.Inside (s : State) (e : EndpointId) : Prop :=
  (s.engines[s.endpoints[e].lane].engineState = .waitReady ∨ s.engines[s.endpoints[e].lane].engineState = .shifting) ∧
    s.engines[s.endpoints[e].lane].currentEndpoint = some e

/-- A level sense of endpoint `e` holds on the sample `levels` (R117). -/
def State.LevelMet (s : State) (e : EndpointId) (levels : BitVec 16) : Prop :=
  ∃ n : Fin 16, s.endpoints[e].attnInput = some n ∧
    ((s.endpoints[e].attnSense = .levelHigh ∧ levels.getLsbD n.val = true) ∨
      (s.endpoints[e].attnSense = .levelLow ∧ levels.getLsbD n.val = false))

/-- A level sense of endpoint `e` holds on the latest sample (R116, R118). -/
def State.LevelNow (s : State) (e : EndpointId) : Prop := ∃ levels, s.lastSample = some levels ∧ s.LevelMet e levels

/-- The sample `levels` shows endpoint `e` an edge of its sense (R116, R117). -/
def State.EdgeMet (s : State) (e : EndpointId) (levels : BitVec 16) : Prop :=
  ∃ (n : Fin 16) (before : BitVec 16), s.endpoints[e].attnInput = some n ∧ s.lastSample = some before ∧
    ((s.endpoints[e].attnSense = .rising ∧ before.getLsbD n.val = false ∧ levels.getLsbD n.val = true) ∨
      (s.endpoints[e].attnSense = .falling ∧ before.getLsbD n.val = true ∧ levels.getLsbD n.val = false))

/-- What the ending of every slot of endpoint e's queue makes of the slots, lists, blocks, notices and credits, each slot
with status ABORTED unless a status was set before, in queue order (R29, R30, R36, R61). `t` is the state after. -/
def State.QueueAborted (s t : State) (e : EndpointId) : Prop :=
  let posted := s.queues[e].filter fun i => s.slots[i].posted
  let ended (i : SlotId) : Slot := { s.slots[i] with status := some (s.slots[i].status.getD .aborted) }
  (∀ i ∈ s.queues[e], s.slots[i].posted = false → t.slots[i] = { ended i with state := .complete }) ∧
    (∀ i ∈ s.queues[e], s.slots[i].posted = true →
      t.slots[i] = { ended i with state := .free, blocks := [], translation := none }) ∧
    (∀ i : SlotId, i ∉ s.queues[e] → t.slots[i] = s.slots[i]) ∧
    t.queues = s.queues.set e [] ∧
    t.completions = s.completions.set e (s.completions[e] ++ s.queues[e].filter fun i => !s.slots[i].posted) ∧
    (∀ b : BlockId, b ∈ t.freeBlocks ↔ b ∈ s.freeBlocks ∨ ∃ i ∈ posted, b ∈ s.slots[i].blocks) ∧
    t.notices = (posted.foldl (fun u i => u.addNotice ⟨.postedFail, some e, some s.slots[i].tag,
        some (s.slots[i].status.getD .aborted), some s.slots[i].beatsDone, none, false⟩) s).notices ∧
    t.credits.request = ⟨s.credits.request.total + BitVec.ofNat 8 posted.length,
      s.credits.request.available + posted.length⟩ ∧
    t.credits.data = ⟨s.credits.data.total + BitVec.ofNat 8 (posted.map fun i => s.slots[i].blocks.length).sum,
      s.credits.data.available + (posted.map fun i => s.slots[i].blocks.length).sum⟩ ∧
    t.credits.management = s.credits.management

/-! ### Terms of the statements: lanes -/

/-- An engine whose select has just been released, with its gap timer started (R69, R79, R80). -/
def Engine.afterRelease (g : Engine) (gapBits : BitVec 8) : Engine :=
  { g with engineState := .gap, currentSlot := none, phase := none, readyTimer := none, gapTimer := some gapBits,
           cut := .none, selects := 0xF#4, unitOut := [], between := false, completing := none }

/-- Slot `i`, with record `sl` and snapshot `t`, is in hand for endpoint `e` on lane `l` (R65). -/
def State.InHand (s : State) (l : LaneId) (e : EndpointId) (i : SlotId) (sl : Slot) (t : Snapshot) : Prop :=
  s.engines[l].currentEndpoint = some e ∧ s.engines[l].currentSlot = some i ∧ s.slots[i] = sl ∧
    sl.translation = some t

/-! ### Terms of the statements: the Outbound Arbiter -/

/-- The transmitter is FREE, the link UP, no control packet due and no replay in progress: candidates 3 to 7 may be
chosen, as the replay buffer allows (R103). -/
def State.SendsSequenced (s : State) : Prop :=
  s.resetHeld = false ∧ s.transmitter = .free ∧ s.link.linkState = .up ∧ s.link.due = ⟨false, false, false, false⟩ ∧
    s.link.replayInProgress = false

/-- No attention record is PENDING with no fence (R103). -/
def State.NoAttnReady (s : State) : Prop := ∀ e : EndpointId, ¬ (s.attn[e].state = .pending ∧ s.attn[e].fence = none)

/-- Candidates 3 to 5 are absent and the replay buffer holds fewer than 13 packets: candidates 6 and 7 may be chosen
(R103, R104). -/
def State.SendsSlotReplies (s : State) : Prop :=
  s.SendsSequenced ∧ s.replies = [] ∧ s.notices = [] ∧ s.NoAttnReady ∧ s.link.replayBuffer.length < 13

/-- The command that answers a slot of this direction. -/
def replyCommand : Direction → Instr
  | .read => .readData
  | .write => .writeDone

end Sys2Proof.Machine
end

