-- ==== Sys2Proof/Certificates/Slice0/Obligations.lean ====
section
/-! DEFINITION. The statements about the part, for the provers: one Prop each, stated from the numbered rules of the
manual, for every state unless a premise says otherwise. -/

open Sys2Proof Sys2Proof.Machine

/-! ### The machine as a whole -/

/-- A step runs the command at the front of the queue on the state with the queue's rest; on an empty queue it idles,
which is the model's choice (assumption 8). -/
def Obligations.StepRunsTheFrontCommand : Prop :=
  (∀ (c : Instr) (rest : List Instr) (s : State),
    step { s with pending := c :: rest } = exec c { s with pending := rest }) ∧
    ∀ s : State, s.pending = [] → step s = .next s

/-- No command changes the queue of commands that wait. The queue is the model's own (assumption 9). -/
def Obligations.CommandsLeaveTheQueue : Prop :=
  ∀ (c : Instr) (s t : State), exec c s = .next t → t.pending = s.pending

/-! ### Resets -/

/-- Every piece of state after a device reset, as its rule gives it (the table of R171). The contents of the blocks are
left out: the manual gives none (assumption 3). -/
def Obligations.ResetValues : Prop :=
  let s := State.reset
  s.resetHeld = false ∧
    (∀ w : WindowId, s.windows[w] = {
      valid := false, base := 0, sizeLog := 0, kind := .register, endpoint := 0, readAllowed := false
      writeAllowed := false, privilegedOnly := false, posted := false, readCmd := none
      writeCmd := none, addrWidth := 0, addrBase := 0, dummy := 0 }) ∧
    (∀ k : Fin 8, s.staging[k] = 0) ∧
    (∀ e : EndpointId, ∃ d : Descriptor, s.endpoints[e] = { d with
        state := .disabled, clockDiv := 10, clockMode := 0, bitOrder := .msbFirst, wordSize := 8, sampleDelay := 0
        readyMode := .none, gapBits := 2, readyTimeout := 1000, maxOutstanding := 4, fillWord := 0, attnInput := none
        attnSense := .levelHigh, drainAfterResume := false, haltCause := .none, transactionsDone := 0 } ∧ d.lane.val = e.val / 4 ∧ d.select.val = e.val % 4) ∧
    (∀ i : SlotId, s.slots[i] = {
      state := .free, tag := 0, cls := .normal, direction := .read, posted := false, length := 0, beatsDone := 0, blocks := [], translation := none, status := none }) ∧
    (∀ e : EndpointId, s.queues[e] = [] ∧ s.completions[e] = [] ∧ s.outstanding e = 0) ∧ s.immediate = [] ∧
    (∀ b : BlockId, b ∈ s.freeBlocks) ∧
    (∀ l : LaneId, ∃ g : Engine, s.engines[l] = { g with
      engineState := .idle, currentEndpoint := none, currentSlot := none, beatIndex := 0, value := 0, phase := none
      unitCount := 0, wordsLeft := 0, fill := 0, div := 10, readyTimer := none, gapTimer := none, cut := .none, idleLevel := false, nextSelect := 0
      selects := 0xF }) ∧
    (∀ e : EndpointId, s.attn[e] = ⟨.idle, none, 0⟩) ∧ s.lastSample = none ∧ s.memHanded = [] ∧ s.cfgHanded = [] ∧
    s.replies = [] ∧ s.notices = [] ∧ s.lastCommand = ⟨0, 0, .ok⟩ ∧ s.transmitter = .free ∧ s.nextCompletion = 0 ∧
    (∃ k : LinkPort, s.link = { k with
      linkState := .down, downCause := .deviceReset, expectedSeq := 0, ackPending := false, nakSent := false
      outboundNext := 0, replayBuffer := [], replayInProgress := false, replayPointer := 0, replayCount := 0
      replayTimer := none, refreshTimer := none, requestTimer := some 128, reportedTotals := ⟨0, 0, 0⟩
      due := ⟨false, false, false, true⟩, replayTimeout := 16, counters := ⟨0, 0, 0, 0, 0⟩ }) ∧
    s.credits = ⟨⟨0, 0⟩, ⟨0, 0⟩, ⟨0, 0⟩⟩

/-- While RESET_N is low, no event but RESET_N's own has an effect (R171). -/
def Obligations.NothingHappensWhileResetIsLow : Prop :=
  ∀ (c : Instr) (s : State), s.resetHeld = true → c ≠ .resetNAssert → c ≠ .resetNRelease → exec c s = .next s

/-- RESET_N going low puts every piece of state at its reset value, with every timer stopped, and holds it; going high
leaves device reset with a SYNC-REQUEST due and requestTimer running, after which every field stands at its reset
value (R149, R171). What the blocks hold and the commands that wait are kept (assumption 3). That requestTimer stands
still and the SYNC-REQUEST due while RESET_N is low, and that a rise of RESET_N which is high is no event, are the
model's reading (assumptions 2 and 18). -/
def Obligations.ResetNAssertAndRelease : Prop :=
  (∀ s : State, exec .resetNAssert s = .next { State.reset with
    pending := s.pending, pool := s.pool, resetHeld := true, link := { LinkPort.reset with requestTimer := none } }) ∧
    (∀ s : State, s.resetHeld = true → exec .resetNRelease s = .next { s with
      resetHeld := false, link := { s.link with
        due := { s.link.due with syncRequest := true }, requestTimer := some (s.link.replayTimeout.toNat * 8) } }) ∧
    (∀ s : State, s.resetHeld = false → exec .resetNRelease s = .next s) ∧
    ∀ s t : State, exec .resetNAssert s = .next t →
      exec .resetNRelease t = .next { State.reset with pending := s.pending, pool := s.pool }

/-- DEVICE-RESET: a device reset at once, with no reply, the replies that wait and the packets handed on lost; from
class NORMAL it causes no reset and is answered DENIED with offset 0 (R164, R170). What the blocks hold is kept, which
is the model's choice (assumption 3). -/
def Obligations.DeviceResetCommand : Prop :=
  ∀ (s : State) (r : CfgRequest) (rest : List CfgRequest),
    s.resetHeld = false → s.cfgHanded = r :: rest → r.Commands 0x5A →
      (r.cls = .privileged →
        exec .deviceReset s = .next { State.reset with pending := s.pending, pool := s.pool }) ∧
        (r.cls = .normal → s.replies.length < 4 →
          exec .deviceReset s = .next (s.afterReply r rest .denied (some 0) []))

/-! ### Packets from the host -/

/-- What makes a frame bad: the framing error flag; an end before a whole header word and check value; more words than
the largest packet the part takes; a check value that is not the one computed (R129). That bytes which end inside a
word are bad is the model's choice (assumption 4). -/
def Obligations.BadFrames : Prop :=
  (∀ f : Frame, f.framingError = true → f.arrival = .bad) ∧ (∀ f : Frame, f.bytes.length < 8 → f.arrival = .bad) ∧
    (∀ f : Frame, 4 * (1 + 1 + 64 + 1) < f.bytes.length → f.arrival = .bad) ∧
    (∀ f : Frame, f.bytes.length % 4 ≠ 0 → f.arrival = .bad) ∧
    ∀ (ws : List Word) (c : Word), c ≠ checkValue (bytesOfWords ws) →
      Frame.arrival ⟨bytesOfWords ws ++ bytesOfWord c, false⟩ = .bad

/-- The host's packets as they arrive undamaged are read back whole: a MEM or CFG request gives its sequence number and
every field, whatever its reserved bits hold; ACK and NAK give next and SYNC itself (chapter 11.1, R136, R174, R175). -/
def Obligations.HostPacketsReadBack : Prop :=
  (∀ (m : MemRequest) (seq : SeqNum) (reserved : BitVec 4), MemConsistent m →
    ∃ p : HostPacket,
      (Frame.ofWords (requestHeader (match m.direction with
        | .read => 1#4
        | .write => 2#4) seq m.cls reserved m.tag m.length :: m.address :: m.beats)).arrival = .sequenced p ∧
        p.seq = seq ∧ p.request? = some (.mem m)) ∧
    (∀ (c : CfgRequest) (seq : SeqNum) (reserved : BitVec 4) (reserved1 : BitVec 22), CfgConsistent c →
      ∃ p : HostPacket,
        (Frame.ofWords (requestHeader (match c.direction with
          | .read => 3#4
          | .write => 4#4) seq c.cls reserved c.tag c.length :: (reserved1 ++ c.start) :: c.data)).arrival =
            .sequenced p ∧ p.seq = seq ∧ p.request? = some (.cfg c)) ∧
    (∀ next : SeqNum, ∃ p : HostPacket, (Frame.ofWords [8#4 ++ next ++ 0#21]).arrival = .ack p ∧ p.seq = next ∧
      p.rest = [] ∧ p.header.extractLsb' 0 21 = 0) ∧
    (∀ next : SeqNum, ∃ p : HostPacket, (Frame.ofWords [9#4 ++ next ++ 0#21]).arrival = .nak p ∧ p.seq = next ∧
      p.rest = [] ∧ p.header.extractLsb' 0 21 = 0) ∧
    ∃ p : HostPacket, (Frame.ofWords [0xA0000000#32]).arrival = .sync p ∧ p.rest = [] ∧
      p.header.extractLsb' 0 28 = 0

/-- BAD_PACKET: checkErrors increments, saturating; while UP, a NAK is made due when nakSent is no, and nakSent becomes
yes; nothing else changes. SEQUENCED_PACKET not accepted: discarded while DOWN; a duplicate, 64 to 127 from E, makes
ackPending yes and an ACK due; one 1 to 63 ahead counts and makes a NAK due when nakSent is no (R129, R131, R134, R135,
R138, R150). -/
def Obligations.PacketsNotAccepted : Prop :=
  ∀ (s : State) (f : Frame), s.resetHeld = false →
    (f.arrival = .bad → exec (.badPacket f) s = .next { s with link := { s.link with
      counters := { s.link.counters with
        checkErrors := if s.link.counters.checkErrors = 0xFFFF then 0xFFFF else s.link.counters.checkErrors + 1 }
      nakSent := s.link.nakSent || decide (s.link.linkState = .up)
      due := { s.link.due with nak := s.link.due.nak || (decide (s.link.linkState = .up) && !s.link.nakSent) } } }) ∧
      ∀ p : HostPacket, f.arrival = .sequenced p →
        let d := (p.seq - s.link.expectedSeq).toNat
        (s.link.linkState = .down → exec (.sequencedPacket f) s = .next s) ∧
          (s.link.linkState = .up → 64 ≤ d → exec (.sequencedPacket f) s = .next { s with link := { s.link with
            ackPending := true, due := { s.link.due with ack := true } } }) ∧
          (s.link.linkState = .up → 1 ≤ d → d ≤ 63 → exec (.sequencedPacket f) s = .next { s with link := { s.link with
            counters := { s.link.counters with sequenceErrors :=
              if s.link.counters.sequenceErrors = 0xFFFF then 0xFFFF else s.link.counters.sequenceErrors + 1 }
            nakSent := true
            due := { s.link.due with nak := s.link.due.nak || !s.link.nakSent } } })

/-- Malformed packets: a sequenced one is accepted and then discarded, an ACK, NAK or SYNC is discarded without its
effects; the malformed counter increments and a MALFORMED notice is created. While DOWN an ACK or NAK has no effect,
whatever its form (R131, R136, R175). Which sequenced packets are malformed is the table of R136: no word 1, a kind
that names no host request, a payload or a length its kind does not allow. -/
def Obligations.MalformedPackets : Prop :=
  (∀ p : HostPacket,
    let kind := p.header.extractLsb' 28 4
    let n := (p.header.extractLsb' 0 8).toNat
    let payload := p.rest.tail
    p.request? = none ↔
      p.rest = [] ∨ kind ∉ [1#4, 2#4, 3#4, 4#4] ∨ (kind = 1#4 ∧ payload ≠ []) ∨
        (kind = 2#4 ∧ payload.length ≠ (if 1 ≤ n ∧ n ≤ 64 then n else 0)) ∨
        (kind = 3#4 ∧ ¬ (1 ≤ n ∧ n ≤ 16 ∧ payload = [])) ∨
        (kind = 4#4 ∧ ¬ (1 ≤ n ∧ n ≤ 16 ∧ payload.length = n))) ∧
  ∀ (s : State) (f : Frame) (p : HostPacket), s.resetHeld = false →
      let count (k : LinkPort) : LinkPort := { k with counters := { k.counters with
        malformed := if k.counters.malformed = 0xFFFF then 0xFFFF else k.counters.malformed + 1 } }
      let noted (k : LinkPort) : State :=
        { s with link := count k }.addNotice ⟨.malformed, none, none, none, none, none, false⟩
      (s.link.linkState = .up → f.arrival = .sequenced p → p.seq = s.link.expectedSeq → p.request? = none →
        exec (.sequencedPacket f) s = .next (noted s.link.afterAcceptance)) ∧
        (s.link.linkState = .up → p.rest ≠ [] ∨ p.header.extractLsb' 0 21 ≠ 0 →
          (f.arrival = .ack p → exec (.hostAck f) s = .next (noted s.link)) ∧
            (f.arrival = .nak p → exec (.hostNak f) s = .next (noted s.link))) ∧
        (p.rest ≠ [] ∨ p.header.extractLsb' 0 28 ≠ 0 → f.arrival = .sync p → exec (.sync f) s = .next (noted s.link)) ∧
        (s.link.linkState = .down →
          (f.arrival = .ack p → exec (.hostAck f) s = .next s) ∧ (f.arrival = .nak p → exec (.hostNak f) s = .next s))

/-- SEQUENCED_PACKET in sequence, self-consistent and with the credits it needs: E advances, an ACK is due, the credits
are consumed and the request is handed on (R134, R137, R153). -/
def Obligations.PacketHandedOn : Prop :=
  ∀ (s : State) (f : Frame) (p : HostPacket), s.resetHeld = false → f.arrival = .sequenced p → s.link.linkState = .up →
    p.seq = s.link.expectedSeq →
      (∀ m : MemRequest, p.request? = some (.mem m) → 1 ≤ s.credits.request.available →
        dataNeeded m ≤ s.credits.data.available →
          exec (.sequencedPacket f) s = .next { s with
            link := s.link.afterAcceptance
            memHanded := s.memHanded ++ [m]
            credits := { s.credits with
              request := { s.credits.request with available := s.credits.request.available - 1 }
              data := { s.credits.data with available := s.credits.data.available - dataNeeded m } } }) ∧
        ∀ c : CfgRequest, p.request? = some (.cfg c) → 1 ≤ s.credits.management.available →
          exec (.sequencedPacket f) s = .next { s with
            link := s.link.afterAcceptance
            cfgHanded := s.cfgHanded ++ [c]
            credits := { s.credits with
              management := { s.credits.management with available := s.credits.management.available - 1 } } }

/-- SEQUENCED_PACKET in sequence that needs more credits than are available: accepted and discarded, consuming nothing,
with creditOverruns counted and a CREDIT_OVERRUN notice naming the first kind short, and the tag for MEM (R137, R154). -/
def Obligations.CreditOverrun : Prop :=
  ∀ (s : State) (f : Frame) (p : HostPacket), s.resetHeld = false → f.arrival = .sequenced p → s.link.linkState = .up →
    p.seq = s.link.expectedSeq →
      let k := s.link.afterAcceptance
      let overrun (kind : CreditKind) (tag : Option Byte) : State :=
        { s with link := { k with counters := { k.counters with creditOverruns :=
            if k.counters.creditOverruns = 0xFFFF then 0xFFFF else k.counters.creditOverruns + 1 } } }.addNotice
          ⟨.creditOverrun, none, tag, none, none, some kind, false⟩
      (∀ m : MemRequest, p.request? = some (.mem m) → s.credits.request.available = 0 →
        exec (.sequencedPacket f) s = .next (overrun .request (some m.tag))) ∧
        (∀ m : MemRequest, p.request? = some (.mem m) → 1 ≤ s.credits.request.available →
          s.credits.data.available < dataNeeded m →
            exec (.sequencedPacket f) s = .next (overrun .data (some m.tag))) ∧
        ∀ c : CfgRequest, p.request? = some (.cfg c) → s.credits.management.available = 0 →
          exec (.sequencedPacket f) s = .next (overrun .management none)

/-- HOST_ACK, well formed, while UP: out of window it is ignored; in window, n becomes the buffer's oldest number, the
packets before it leave, replayCount and replayTimer follow when one leaves, and a replay goes on from what remains
(R142, R144, R146). The premise is that the buffer's packets stand numbered up to outboundNext (R141). -/
def Obligations.HostAck : Prop :=
  ∀ (s : State) (f : Frame) (p : HostPacket), s.resetHeld = false → f.arrival = .ack p → s.link.linkState = .up →
    p.rest = [] → p.header.extractLsb' 0 21 = 0 → s.link.bufferLaw →
      let leaves := (p.seq - s.link.oldestSeq).toNat
      (s.link.replayBuffer.length < leaves → exec (.hostAck f) s = .next s) ∧
        (leaves ≤ s.link.replayBuffer.length → ∃ k : LinkPort,
          exec (.hostAck f) s = .next { s with link := k } ∧
            k = { s.link with replayBuffer := k.replayBuffer, replayCount := k.replayCount,
                              replayTimer := k.replayTimer, replayInProgress := k.replayInProgress,
                              replayPointer := k.replayPointer } ∧
            k.replayBuffer = s.link.replayBuffer.drop leaves ∧ k.oldestSeq = p.seq ∧ k.bufferLaw ∧
            (leaves = 0 → k = s.link) ∧
            (1 ≤ leaves → k.replayCount = 0 ∧
              (k.replayBuffer = [] → k.replayTimer = none ∧ k.replayInProgress = false) ∧
              (k.replayBuffer ≠ [] → k.replayTimer = some (s.link.replayTimeout.toNat * 8) ∧
                k.replayInProgress = s.link.replayInProgress ∧
                (s.link.replayInProgress = true →
                  ((∃ q ∈ k.replayBuffer, q.seq = s.link.replayPointer) → k.replayPointer = s.link.replayPointer) ∧
                    ((∀ q ∈ k.replayBuffer, q.seq ≠ s.link.replayPointer) → k.replayPointer = p.seq)))))

/-- HOST_NAK, well formed, while UP: out of window it is ignored; in window it acts first as the ACK of the same number;
then, if a packet is still held, a replay starts, or at a replayCount of 4 the link fails (R143, R145, R147). -/
def Obligations.HostNak : Prop :=
  ∀ (s : State) (f : Frame) (p : HostPacket), s.resetHeld = false → f.arrival = .nak p → s.link.linkState = .up →
    p.rest = [] → p.header.extractLsb' 0 21 = 0 →
      let k := s.link.acknowledge p.seq
      ((s.link.outboundNext - s.link.oldestSeq).toNat < (p.seq - s.link.oldestSeq).toNat →
        exec (.hostNak f) s = .next s) ∧
        ((p.seq - s.link.oldestSeq).toNat ≤ (s.link.outboundNext - s.link.oldestSeq).toNat →
          (∀ (g : Frame) (q : HostPacket), g.arrival = .ack q → q.seq = p.seq → q.rest = [] →
            q.header.extractLsb' 0 21 = 0 → exec (.hostAck g) s = .next { s with link := k }) ∧
            (k.replayBuffer = [] → exec (.hostNak f) s = .next { s with link := k }) ∧
            (k.replayBuffer ≠ [] → k.replayCount < 4 → exec (.hostNak f) s = .next { s with link := { k with
              counters := { k.counters with
                replays := if k.counters.replays = 0xFFFF then 0xFFFF else k.counters.replays + 1 }
              replayCount := k.replayCount + 1
              replayInProgress := true
              replayPointer := k.oldestSeq
              replayTimer := some (k.replayTimeout.toNat * 8) } }) ∧
            (k.replayBuffer ≠ [] → 4 ≤ k.replayCount → ∃ t : State,
              exec (.hostNak f) s = .next t ∧ t.link.linkState = .down ∧
                t.link.downCause = .linkFailure))

/-- SYNC, well formed: the sequence numbers, the replay buffer, the credits and the due set as R132 gives, the link UP
with a SYNC-ACK due; when the link was DOWN nothing else changes (R130, R132, R160). That refreshTimer stands still
until the SYNC-ACK is chosen is the model's reading, and ackRefresh its own field (assumptions 7 and 16). -/
def Obligations.Sync : Prop :=
  ∀ (s : State) (f : Frame) (p : HostPacket), s.resetHeld = false → f.arrival = .sync p → p.rest = [] →
    p.header.extractLsb' 0 28 = 0 → ∃ t : State, exec (.sync f) s = .next t ∧
      t.link = { s.link with
        linkState := .up, expectedSeq := 0, outboundNext := 0, ackPending := false, nakSent := false,
        replayBuffer := [], replayInProgress := false, replayPointer := 0, replayCount := 0, replayTimer := none,
        refreshTimer := none, requestTimer := none, reportedTotals := ⟨64, 128, 4⟩,
        due := ⟨true, false, false, false⟩, ackRefresh := false } ∧
      t.credits = ⟨⟨64, 64⟩, ⟨128, 128⟩, ⟨4, 4⟩⟩ ∧
      (s.link.linkState = .down → t = { s with link := t.link, credits := t.credits })

/-- REPLAY_TIMER_EXPIRY: while UP with replayTimer running, a replay starts, or at a replayCount of 4 the link fails.
REFRESH_TIMER_EXPIRY makes an ACK due; REQUEST_TIMER_EXPIRY makes a SYNC-REQUEST due and restarts its timer (R131,
R138, R139, R144, R145, R147). That refreshTimer then stands still, and that a stopped timer's expiry has no effect,
are the model's (assumptions 2 and 12). The field ackRefresh is its own and a due SYNC-ACK is withdrawn when the link
fails (assumptions 7 and 17). -/
def Obligations.TimerExpiries : Prop :=
  (∀ s : State, s.resetHeld = false →
    (s.link.linkState = .up → s.link.replayTimer ≠ none → s.link.replayCount < 4 →
      exec .replayTimerExpiry s = .next { s with link := { s.link with
        counters := { s.link.counters with
          replays := if s.link.counters.replays = 0xFFFF then 0xFFFF else s.link.counters.replays + 1 }
        replayCount := s.link.replayCount + 1
        replayInProgress := true
        replayPointer := match s.link.replayBuffer with
          | [] => s.link.outboundNext
          | q :: _ => q.seq
        replayTimer := some (s.link.replayTimeout.toNat * 8) } }) ∧
      (s.link.linkState = .up → s.link.replayTimer ≠ none → 4 ≤ s.link.replayCount → ∃ t : State,
        exec .replayTimerExpiry s = .next t ∧ t.link = s.link.afterFailure) ∧
      (s.link.linkState = .down ∨ s.link.replayTimer = none → exec .replayTimerExpiry s = .next s)) ∧
    ∀ s : State, s.resetHeld = false →
    (s.link.linkState = .up → s.link.refreshTimer ≠ none →
      exec .refreshTimerExpiry s = .next { s with link := { s.link with
        due := { s.link.due with ack := true }, refreshTimer := none, ackRefresh := true } }) ∧
      (s.link.linkState = .down ∨ s.link.refreshTimer = none → exec .refreshTimerExpiry s = .next s) ∧
      (s.link.linkState = .down → s.link.requestTimer ≠ none →
        exec .requestTimerExpiry s = .next { s with link := { s.link with
          due := { s.link.due with syncRequest := true }
          requestTimer := some (s.link.replayTimeout.toNat * 8) } }) ∧
      (s.link.linkState = .up ∨ s.link.requestTimer = none → exec .requestTimerExpiry s = .next s)

/-- A link reset, however caused, on the slots, the lists and what the other blocks keep (R63, R109, R148): every slot
freed with its last request's fields kept, every list and hand-on queue empty, every block free. -/
def Obligations.LinkResetEmptiesTheLists : Prop :=
  ∀ (s : State) (c : Instr), s.LinkResetBy c → ∃ t : State, exec c s = .next t ∧
    (∀ i : SlotId, t.slots[i] = { s.slots[i] with state := .free, blocks := [], translation := none }) ∧
    (∀ e : EndpointId, t.queues[e] = [] ∧ t.completions[e] = [] ∧ t.outstanding e = 0) ∧ t.immediate = [] ∧
    t.freeBlocks = List.finRange 128 ∧ t.memHanded = [] ∧ t.cfgHanded = [] ∧ t.replies = [] ∧
    t.windows = s.windows ∧ t.staging = s.staging ∧ t.notices = s.notices ∧ t.lastCommand = s.lastCommand ∧
    t.transmitter = s.transmitter ∧ t.nextCompletion = s.nextCompletion ∧ t.lastSample = s.lastSample ∧
    t.pool = s.pool ∧ t.link.replayTimeout = s.link.replayTimeout ∧ t.link.replayInProgress = false ∧
    (t.link.linkState = .down → t.credits = s.credits)

/-- A link reset on the lanes, the endpoints and the attention records: a byte or word in flight is finished first,
TRAIL begins at once in DUMMY and between two units, with unitCount 0, and the select is released at once before the
first unit (R37, R73, R80, R81, R96, R125, R126). unitOut and between are the model's own fields, unitCount in TRAIL
and what a released engine clears its readings (assumptions 6, 10, 13 and 24). -/
def Obligations.LinkResetCutsTheLanes : Prop :=
  ∀ (s : State) (c : Instr), s.LinkResetBy c → ∃ t : State, exec c s = .next t ∧
    (∀ l : LaneId,
      let g := s.engines[l]
      (g.engineState = .idle ∨ g.engineState = .gap → t.engines[l] = g) ∧
        (∀ e : EndpointId, g.currentEndpoint = some e →
          g.engineState = .waitReady ∨ g.engineState = .shifting ∧ g.phase = some .lead →
            t.engines[l] = g.afterRelease s.endpoints[e].gapBits) ∧
        (g.engineState = .shifting → g.phase = some .dummy ∨ g.phase ≠ some .lead ∧ g.between = true → t.engines[l] =
          { g with cut := .link, currentSlot := none, phase := some .trail, unitCount := 0, unitOut := [],
                   between := false }) ∧
        (g.engineState = .shifting → g.phase ≠ some .lead → g.phase ≠ some .dummy → g.between = false →
          t.engines[l] = { g with cut := .link, currentSlot := none })) ∧
    (∀ e : EndpointId,
      let d := s.endpoints[e]
      (d.state = .disabled ∨ d.state = .active ∨ d.state = .halted → t.endpoints[e] = d) ∧
        (d.state = .draining ∨ d.state = .stopping → t.Inside e → t.endpoints[e] = d) ∧
        (d.state = .draining → ¬ t.Inside e → t.endpoints[e] = { d with state := .disabled })) ∧
    ∀ e : EndpointId,
      (t.endpoints[e].state = .disabled → t.attn[e] = ⟨.idle, none, 0⟩) ∧
        (t.endpoints[e].state ≠ .disabled → t.attn[e] =
          ⟨if s.attn[e].state = .sent then .pending else s.attn[e].state, none, s.attn[e].repeats⟩)

/-! ### MEM requests -/

/-- MEM_READ and MEM_WRITE accepted: the lowest free slot is QUEUED at the tail of its endpoint's queue with its
snapshot and its blocks, a write's beats stand in the blocks, every other place of the pool, those of its last block
past its last beat among them, reads as before, and nothing else changes (R5, R11, R44, R50, R51, R53, R55). The
premise on the free set is that it holds no block twice (R50). -/
def Obligations.MemRequestAccepted : Prop :=
  ∀ (s : State) (m : MemRequest) (rest : List MemRequest) (w : WindowId) (i : SlotId), s.resetHeld = false →
    s.memHanded = m :: rest → s.LowestFree i → s.Accepts m w → s.freeBlocks.Nodup →
    (m.length.toNat + 7) / 8 ≤ s.freeBlocks.length → (m.direction = .write → m.beats.length = m.length.toNat) →
      let e := s.windows[w].endpoint
      let n := (m.length.toNat + 7) / 8
      let bl := s.freeBlocks.take n
      ∃ (sn : Snapshot) (pool : Vector (Vector Word 8) 128),
        sn.isOf w s.windows[w] m ∧ (m.direction = .read → pool = s.pool) ∧
          (∀ b : BlockId, b ∉ bl → pool[b] = s.pool[b]) ∧
          (m.direction = .write → ∀ (k : Nat) (b : BlockId), k < m.length.toNat → bl[k / 8]? = some b →
            (pool[b])[k % 8]? = m.beats[k]?) ∧
          (∀ (k : Nat) (b : BlockId), m.length.toNat ≤ k → bl[k / 8]? = some b →
            (pool[b])[k % 8]? = (s.pool[b])[k % 8]?) ∧
          exec (memCommand m.direction) s = .next { s with
            memHanded := rest
            slots := s.slots.set i {
              state := .queued, tag := m.tag, cls := m.cls, direction := m.direction
              posted := decide (m.direction = .write) && s.windows[w].posted, length := m.length, beatsDone := 0
              blocks := bl, translation := some sn, status := none }
            freeBlocks := s.freeBlocks.drop n
            pool := pool
            queues := s.queues.set e (s.queues[e] ++ [i]) }

/-- MEM_READ and MEM_WRITE refused by the first check that fails. A read, and a write that matched no posted window, joins
the immediate list COMPLETE with the refusal status; a write that matched a posted window is freed at once behind a
POSTED_FAIL notice. The data credits needed go back at once, a posted write's request credit with them (R53 to R57). -/
def Obligations.MemRequestRefused : Prop :=
  ∀ (s : State) (m : MemRequest) (rest : List MemRequest) (status : MemStatus) (matched : Option WindowId)
    (i : SlotId), s.resetHeld = false → s.memHanded = m :: rest → s.LowestFree i → s.Refuses m status matched →
      (m.direction = .read ∨ matched = none ∨ (∃ w, matched = some w ∧ s.windows[w].posted = false) →
        exec (memCommand m.direction) s = .next ({ s with
          memHanded := rest
          slots := s.slots.set i {
            state := .complete, tag := m.tag, cls := m.cls, direction := m.direction, posted := false
            length := m.length, beatsDone := 0, blocks := [], translation := none, status := some status }
          immediate := s.immediate ++ [i] }.grantCredits 0 (dataNeeded m) 0)) ∧
        ∀ w : WindowId, m.direction = .write → matched = some w → s.windows[w].posted = true →
          exec (memCommand m.direction) s = .next (({ s with
            memHanded := rest
            slots := s.slots.set i {
              state := .free, tag := m.tag, cls := m.cls, direction := m.direction, posted := true
              length := m.length, beatsDone := 0, blocks := [], translation := none, status := some status } }.addNotice
            ⟨.postedFail, some s.windows[w].endpoint, some m.tag, some status, some 0, none, false⟩).grantCredits 1
              (dataNeeded m) 0)

/-! ### Credits, notices and slots -/

/-- Granting credits and freeing a slot: totals and available counts rise, totals modulo 256, and an ACK is due while UP
when the totals differ from those last reported; a freed slot gives its blocks back and keeps its other fields (R42,
R138, R155). -/
def Obligations.CreditsGrantedAndSlotsFreed : Prop :=
  (∀ (s : State) (a b c : Nat),
    let credits : Credits :=
      { request := ⟨s.credits.request.total + BitVec.ofNat 8 a, s.credits.request.available + a⟩
        data := ⟨s.credits.data.total + BitVec.ofNat 8 b, s.credits.data.available + b⟩
        management := ⟨s.credits.management.total + BitVec.ofNat 8 c, s.credits.management.available + c⟩ }
    let totals : Totals := ⟨credits.request.total, credits.data.total, credits.management.total⟩
    s.grantCredits a b c = { s with
      credits := credits
      link := { s.link with due := { s.link.due with
        ack := s.link.due.ack || (decide (s.link.linkState = .up) && decide (totals ≠ s.link.reportedTotals)) } } }) ∧
    ∀ (s : State) (i : SlotId),
      s.freeSlot i = { s with
        slots := s.slots.set i { s.slots[i] with state := .free, blocks := [], translation := none }
        freeBlocks := (s.freeSlot i).freeBlocks } ∧
        (∀ b : BlockId, b ∈ (s.freeSlot i).freeBlocks ↔ b ∈ s.freeBlocks ∨ b ∈ s.slots[i].blocks) ∧
        (s.freeBlocks.Pairwise (· < ·) → (s.freeSlot i).freeBlocks.Pairwise (· < ·))

/-- A notice created while the queue holds fewer than 8 is appended with more = no; while it holds 8 it is lost, the tail
is marked more = yes and the queue is otherwise unchanged. At a full queue, a removal of the head first leaves room for
the new notice; a creation first loses it and leaves seven notices, the marked one among them (R113). -/
def Obligations.NoticeCreation : Prop :=
  (∀ (s : State) (n : Notice), s.notices.length < 8 → s.addNotice n = { s with notices := s.notices ++ [n] }) ∧
    (∀ (s : State) (n last : Notice) (front : List Notice), s.notices = front ++ [last] → front.length = 7 →
      s.addNotice n = { s with notices := front ++ [{ last with more := true }] }) ∧
    (∀ (s : State) (n : Notice), s.notices.length = 8 →
      { s with notices := s.notices.tail }.addNotice n = { s with notices := s.notices.tail ++ [n] }) ∧
    (∀ (s : State) (n head last : Notice) (middle : List Notice), s.notices = head :: (middle ++ [last]) →
      middle.length = 6 → (s.addNotice n).notices.tail = middle ++ [{ last with more := true }]) ∧
    ∀ (e : EndpointId) (tag : Byte) (status : MemStatus) (beats : Nat) (kind : CreditKind) (otag : Option Byte),
      (Notice.postedFail e tag status beats).more = false ∧ (Notice.creditOverrun kind otag).more = false ∧
        Notice.malformed.more = false

/-- A request ends: the slot leaves its endpoint's queue with the status given, or the one set before. A non-posted slot is
COMPLETE at the tail of the completion list. A posted slot is freed, with one request credit and a data credit per block
granted, behind a POSTED_FAIL notice unless it ended OK (R41, R60, R61). -/
def Obligations.RequestEnds : Prop :=
  ∀ (s : State) (e : EndpointId) (i : SlotId) (status : MemStatus),
    let sl := s.slots[i]
    let st := sl.status.getD status
    (sl.posted = false → s.endSlot e i status = { s with
      slots := s.slots.set i { sl with state := .complete, status := some st }
      queues := s.queues.set e (s.queues[e].erase i)
      completions := s.completions.set e (s.completions[e] ++ [i]) }) ∧
      (sl.posted = true → st = .ok → s.endSlot e i status = ({ s with
        slots := s.slots.set i { sl with status := some st }
        queues := s.queues.set e (s.queues[e].erase i) }.freeSlot i).grantCredits 1 sl.blocks.length 0) ∧
      (sl.posted = true → st ≠ .ok → s.endSlot e i status = (({ s with
        slots := s.slots.set i { sl with status := some st }
        queues := s.queues.set e (s.queues[e].erase i) }.addNotice
          ⟨.postedFail, some e, some sl.tag, some st, some sl.beatsDone, none, false⟩).freeSlot i).grantCredits 1
            sl.blocks.length 0)

/-! ### Management space -/

/-- CFG_READ: served in ascending word order with status OK, changing nothing but the reply list; past the end of
management space it is refused with RANGE, the offset 1024 − S and no data (R162, R163, R165). -/
def Obligations.CfgRead : Prop :=
  ∀ (s : State) (r : CfgRequest) (rest : List CfgRequest), s.TakesCfg r rest → r.direction = .read →
    (r.start.toNat + r.length.toNat - 1 ≤ 1023 → exec .cfgRead s = .next (s.afterReply r rest .ok none
      ((List.range r.length.toNat).map fun k => s.readWord (r.start.toNat + k)))) ∧
      (1023 < r.start.toNat + r.length.toNat - 1 → exec .cfgRead s = .next (s.afterReply r rest .range
        (some (BitVec.ofNat 4 (1024 - r.start.toNat))) []))

/-- What management words read as: identity, control, command, acknowledge, counters, staging, the words of no region,
and every field of the window entries, the descriptors and the slot view, with their code tables; and writing back
what a descriptor's locked and writable words read as changes no field (R1, R2, R19, R23, R43, R161, R167, R168, R172,
R173, R176, R177, chapter 11). The silicon revision is left open, and an absent command byte reads as zero bits
(assumptions 1 and 19). -/
def Obligations.ManagementWords : Prop :=
  (∀ s : State,
    (s.readWord 0x000).extractLsb' 16 16 = 0x4160 ∧ (s.readWord 0x000).extractLsb' 4 12 = 0 ∧
      s.readWord 0x004 = 0#24 ++ s.link.replayTimeout ∧
      s.readWord 0x008 = s.lastCommand.code ++ 0#4 ++ BitVec.ofNat 4 s.lastCommand.status.code ++ 0#8 ++
        s.lastCommand.index ∧
      (∀ e : EndpointId, ((s.readWord 0x00C).getLsbD e.val = true ↔ s.attn[e].state = .pending) ∧
        ((s.readWord 0x00C).getLsbD (16 + e.val) = true ↔ s.attn[e].state = .sent)) ∧
      s.readWord 0x010 = 0#16 ++ s.link.counters.checkErrors ∧
      s.readWord 0x011 = 0#16 ++ s.link.counters.sequenceErrors ∧ s.readWord 0x012 = 0#16 ++ s.link.counters.replays ∧
      s.readWord 0x013 = 0#16 ++ s.link.counters.creditOverruns ∧
      s.readWord 0x014 = 0#16 ++ s.link.counters.malformed ∧ (∀ k : Fin 8, s.readWord (0x040 + k.val) = s.staging[k]) ∧
      (∀ i : Nat, 1 ≤ i ∧ i ≤ 3 ∨ 5 ≤ i ∧ i ≤ 7 ∨ 9 ≤ i ∧ i ≤ 0xB ∨ 0xD ≤ i ∧ i ≤ 0xF ∨ 0x15 ≤ i ∧ i ≤ 0x3F ∨
        0x48 ≤ i ∧ i ≤ 0xFF → s.readWord i = 0) ∧
      (∀ w : WindowId,
        let x := s.windows[w]
        s.readWord (0x100 + 8 * w.val) = x.base ∧
        s.readWord (0x100 + 8 * w.val + 1) = BitVec.ofBool x.valid ++ 0#7 ++ BitVec.ofNat 8 x.endpoint.val ++ 0#6 ++
          BitVec.ofNat 2 x.kind.code ++ 0#3 ++ x.sizeLog ∧
        s.readWord (0x100 + 8 * w.val + 2) = 0#28 ++ BitVec.ofBool x.posted ++ BitVec.ofBool x.privilegedOnly ++
          BitVec.ofBool x.writeAllowed ++ BitVec.ofBool x.readAllowed ∧
        s.readWord (0x100 + 8 * w.val + 3) = 0#7 ++ BitVec.ofBool x.writeCmd.isSome ++ x.writeCmd.getD 0 ++ 0#7 ++
          BitVec.ofBool x.readCmd.isSome ++ x.readCmd.getD 0 ∧
        s.readWord (0x100 + 8 * w.val + 4) = 0#20 ++ x.dummy ++ 0#5 ++ x.addrWidth ∧
        s.readWord (0x100 + 8 * w.val + 5) = x.addrBase ∧ s.readWord (0x100 + 8 * w.val + 6) = 0 ∧
        s.readWord (0x100 + 8 * w.val + 7) = 0) ∧
      (∀ e : EndpointId,
        let d := s.endpoints[e]
        s.readWord (0x200 + 16 * e.val) = 0#11 ++ BitVec.ofNat 5 (s.queues[e].length + s.completions[e].length) ++
          0#6 ++ BitVec.ofBool d.drainAfterResume ++ BitVec.ofBool (decide (d.haltCause = .readyTimeout)) ++ 0#5 ++
          BitVec.ofNat 3 d.state.code ∧
        s.readWord (0x200 + 16 * e.val + 1) = d.transactionsDone ∧
        s.readWord (0x200 + 16 * e.val + 2) = 0#4 ++ d.sampleDelay ++ 0#2 ++ d.wordSize ++
          (if d.readyMode = .wait then 1#2 else 0#2) ++ (if d.bitOrder = .lsbFirst then 1#2 else 0#2) ++ 0#2 ++
          d.clockMode ++ 0#2 ++ BitVec.ofNat 2 d.select.val ++ 0#2 ++ BitVec.ofNat 2 d.lane.val ∧
        s.readWord (0x200 + 16 * e.val + 3) = 0#24 ++ d.clockDiv ∧
        s.readWord (0x200 + 16 * e.val + 4) = 0#4 ++ d.readyTimeout ++ 0#3 ++ d.maxOutstanding ++ d.gapBits ∧
        s.readWord (0x200 + 16 * e.val + 5) = d.fillWord ∧
        s.readWord (0x200 + 16 * e.val + 6) = 0#22 ++ BitVec.ofNat 2 d.attnSense.code ++ 0#3 ++
          BitVec.ofNat 5 (d.attnInput.elim 31 Fin.val) ∧
        ∀ k : Nat, 7 ≤ k → k ≤ 15 → s.readWord (0x200 + 16 * e.val + k) = 0) ∧
      ∀ i : SlotId,
        let sl := s.slots[i]
        let block (k : Nat) : BitVec 8 := BitVec.ofNat 8 ((sl.blocks[k]?).elim 0 Fin.val)
        (∃ (x : BitVec 4) (c : BitVec 2),
          s.readWord (0x300 + 4 * i.val) = BitVec.ofNat 4 (sl.status.elim 15 MemStatus.code) ++
            BitVec.ofBool sl.translation.isSome ++ BitVec.ofBool sl.posted ++
            BitVec.ofBool (decide (sl.direction = .write)) ++ BitVec.ofBool (decide (sl.cls = .privileged)) ++
            sl.length ++ sl.tag ++ x ++ c ++ BitVec.ofNat 2 sl.state.code ∧
          (i ∈ s.immediate → c = 3 ∧ x = 0) ∧
          (∀ e : EndpointId, i ∉ s.immediate → i ∈ s.queues[e] → (∀ f : EndpointId, i ∈ s.queues[f] → f = e) →
            c = 1 ∧ x = BitVec.ofNat 4 e.val) ∧
          (∀ e : EndpointId, i ∉ s.immediate → (∀ f : EndpointId, i ∉ s.queues[f]) → i ∈ s.completions[e] →
            (∀ f : EndpointId, i ∈ s.completions[f] → f = e) → c = 2 ∧ x = BitVec.ofNat 4 e.val) ∧
          (i ∉ s.immediate → (∀ f : EndpointId, i ∉ s.queues[f] ∧ i ∉ s.completions[f]) → c = 0 ∧ x = 0)) ∧
        s.readWord (0x300 + 4 * i.val + 1) = 0#4 ++
          BitVec.ofNat 4 (sl.translation.elim 0 fun t => t.endpoint.val) ++ 0#3 ++
          BitVec.ofNat 5 (sl.translation.elim 0 fun t => t.window.val) ++ 0#4 ++ BitVec.ofNat 4 sl.blocks.length ++
          0#1 ++ BitVec.ofNat 7 sl.beatsDone ∧
        s.readWord (0x300 + 4 * i.val + 2) = block 3 ++ block 2 ++ block 1 ++ block 0 ∧
        s.readWord (0x300 + 4 * i.val + 3) = block 7 ++ block 6 ++ block 5 ++ block 4) ∧
    ([WindowKind.register, .block, .stream].map WindowKind.code = [0, 1, 2] ∧
      [EpState.disabled, .active, .draining, .halted, .stopping].map EpState.code = [0, 1, 2, 3, 4] ∧
      [AttnSense.levelHigh, .levelLow, .rising, .falling].map AttnSense.code = [0, 1, 2, 3] ∧
      [SlotState.free, .queued, .active, .complete].map SlotState.code = [0, 1, 2, 3] ∧
      [MemStatus.ok, .align, .unmapped, .denied, .epDisabled, .epHalted, .busy, .timeout, .aborted].map
        MemStatus.code = [0, 1, 2, 3, 4, 5, 6, 7, 8] ∧
      [CfgStatus.ok, .denied, .range, .locked, .overlap, .conflict, .state, .unknown].map CfgStatus.code =
        [0, 1, 2, 3, 4, 5, 6, 7]) ∧
    ∀ (s : State) (e : EndpointId) (k : Nat), 2 ≤ k → k ≤ 6 →
    s.endpoints[e].writeWord k (s.descriptorWord e k) = s.endpoints[e]

/-- CFG_WRITE refused whole: DENIED with offset 0 from class NORMAL; RANGE with offset 1024 − S past the end; otherwise by
the first word that fails, with that word's status and offset. Nothing but the reply list changes (R24, R164, R165). -/
def Obligations.CfgWriteRefused : Prop :=
  ∀ (s : State) (r : CfgRequest) (rest : List CfgRequest), s.TakesCfg r rest → r.direction = .write →
    r.data.length = r.length.toNat →
      (r.cls = .normal → exec .cfgWrite s = .next (s.afterReply r rest .denied (some 0) [])) ∧
        (r.cls = .privileged → 1023 < r.start.toNat + r.length.toNat - 1 →
          exec .cfgWrite s = .next (s.afterReply r rest .range (some (BitVec.ofNat 4 (1024 - r.start.toNat))) [])) ∧
        ∀ (k : Nat) (v : Word) (status : CfgStatus), r.cls = .privileged →
          r.start.toNat + r.length.toNat - 1 ≤ 1023 → r.data[k]? = some v →
          (∀ (j : Nat) (u : Word) (st : CfgStatus), j < k → r.data[j]? = some u →
            ¬ s.WordFails r.length.toNat (r.start.toNat + j) u st) →
          s.WordFails r.length.toNat (r.start.toNat + k) v status →
            exec .cfgWrite s = .next (s.afterReply r rest status (some (BitVec.ofNat 4 k)) [])

/-- CFG_WRITE applied: when every word passes, every word is written in ascending order and the reply is OK; and what the
writing of one word changes: replayTimeout, a staging word whole, or the fields of a descriptor word, a write of word 6
having the level judged at once (R2, R20, R24, R118, R164, R176, R177, R178). -/
def Obligations.CfgWriteApplied : Prop :=
  (∀ (s : State) (r : CfgRequest) (rest : List CfgRequest), s.TakesCfg r rest → r.direction = .write →
    r.cls = .privileged → r.data.length = r.length.toNat → r.start.toNat + r.length.toNat - 1 ≤ 1023 →
    ¬ (r.length = 1 ∧ (r.start = 0x008#10 ∨ r.start = 0x00C#10)) →
    (∀ (j : Nat) (u : Word) (st : CfgStatus), r.data[j]? = some u →
      ¬ s.WordFails r.length.toNat (r.start.toNat + j) u st) →
      exec .cfgWrite s = .next ((r.data.zipIdx.foldl (fun t x => t.writeWord (r.start.toNat + x.2) x.1) s).afterReply r
        rest .ok none [])) ∧
    ∀ (s : State) (v : Word),
      s.writeWord 0x004 v = { s with link := { s.link with replayTimeout := v.extractLsb' 0 8 } } ∧
        (∀ k : Fin 8, s.writeWord (0x040 + k.val) v = { s with staging := s.staging.set k v }) ∧
        ∀ e : EndpointId,
          let d := s.endpoints[e]
          (s.writeWord (0x200 + 16 * e.val + 2) v = { s with endpoints := s.endpoints.set e { d with
            lane := (v.extractLsb' 0 2).toFin, select := (v.extractLsb' 4 2).toFin, clockMode := v.extractLsb' 8 2,
            bitOrder := if v.extractLsb' 12 2 = 0 then .msbFirst else .lsbFirst,
            readyMode := if v.extractLsb' 14 2 = 0 then .none else .wait, wordSize := v.extractLsb' 16 6,
            sampleDelay := v.extractLsb' 24 4 } }) ∧
            (s.writeWord (0x200 + 16 * e.val + 3) v = { s with
              endpoints := s.endpoints.set e { d with clockDiv := v.extractLsb' 0 8 } }) ∧
            (s.writeWord (0x200 + 16 * e.val + 4) v = { s with endpoints := s.endpoints.set e { d with
              gapBits := v.extractLsb' 0 8, maxOutstanding := v.extractLsb' 8 5,
              readyTimeout := v.extractLsb' 16 12 } }) ∧
            (s.writeWord (0x200 + 16 * e.val + 5) v = { s with
              endpoints := s.endpoints.set e { d with fillWord := v } }) ∧
            ∀ (n : Option (Fin 16)) (sense : AttnSense), (v.extractLsb' 0 5).toNat = n.elim 31 Fin.val →
              (v.extractLsb' 8 2).toNat = sense.code →
                let t := { s with endpoints := s.endpoints.set e { d with attnInput := n, attnSense := sense } }
                (d.state ≠ .disabled → s.attn[e].state = .idle → t.LevelNow e →
                  s.writeWord (0x200 + 16 * e.val + 6) v = { t with
                    attn := s.attn.set e ⟨.pending, s.completions[e].getLast?, 0⟩ }) ∧
                  (d.state = .disabled ∨ s.attn[e].state ≠ .idle ∨ ¬ t.LevelNow e →
                    s.writeWord (0x200 + 16 * e.val + 6) v = t)

/-- ATTENTION_ACKNOWLEDGE: each named record that is SENT becomes IDLE, or takes a new attention at once when a level sense
holds; every other record stays; the reply is OK. From class NORMAL it is refused with DENIED (R123, R164). -/
def Obligations.AttentionAcknowledge : Prop :=
  ∀ (s : State) (r : CfgRequest) (rest : List CfgRequest), s.TakesCfg r rest → r.direction = .write → r.length = 1 →
    r.start = 0x00C#10 →
      (r.cls = .normal → exec .attentionAcknowledge s = .next (s.afterReply r rest .denied (some 0) [])) ∧
        (r.cls = .privileged → ∃ attn : Vector AttnRecord 16,
          exec .attentionAcknowledge s = .next { s.afterReply r rest .ok none [] with attn := attn } ∧
            ∀ e : EndpointId,
              (r.word0.getLsbD e.val = false ∨ s.attn[e].state ≠ .sent → attn[e] = s.attn[e]) ∧
                (r.word0.getLsbD e.val = true → s.attn[e].state = .sent →
                  (s.endpoints[e].state ≠ .disabled → s.LevelNow e →
                    attn[e] = ⟨.pending, s.completions[e].getLast?, 0⟩) ∧
                    (s.endpoints[e].state = .disabled ∨ ¬ s.LevelNow e → attn[e] = ⟨.idle, none, 0⟩)))

/-! ### Window commands -/

/-- COMMIT-WINDOW w: when the staged fields pass checks 1 to 7 and overlap no other valid entry, entry w takes them, valid,
and the reply is OK; when one of checks 1 to 7 fails the reply is RANGE, and when only the overlap check fails, OVERLAP,
with the table and the staging record as they were (R12). -/
def Obligations.CommitWindow : Prop :=
  ∀ (s : State) (r : CfgRequest) (rest : List CfgRequest) (w : WindowId), s.TakesCfg r rest → r.Commands 0x01 →
    r.cls = .privileged → (r.word0.extractLsb' 0 8).toNat = w.val →
      let f := stagedFields s.staging
      (∀ (kind : WindowKind) (e : EndpointId), f.Pass kind e → ¬ s.Overlaps w f →
        exec .commitWindow s = .next { s.afterCommand r rest .ok with
          windows := s.windows.set w {
            valid := true, base := f.base, sizeLog := f.sizeLog, kind := kind, endpoint := e
            readAllowed := f.readAllowed, writeAllowed := f.writeAllowed, privilegedOnly := f.privilegedOnly
            posted := f.posted, readCmd := f.readCmd, writeCmd := f.writeCmd, addrWidth := f.addrWidth
            addrBase := f.addrBase, dummy := f.dummy } }) ∧
        (∀ (kind : WindowKind) (e : EndpointId), f.Pass kind e → s.Overlaps w f →
          exec .commitWindow s = .next (s.afterCommand r rest .overlap)) ∧
        ((∀ (kind : WindowKind) (e : EndpointId), ¬ f.Pass kind e) →
          exec .commitWindow s = .next (s.afterCommand r rest .range))

/-- CLEAR-WINDOW w marks entry w invalid, keeping its other fields, and no later lookup matches it; FETCH-WINDOW w writes
the eight staging words from entry w, bit 31 of word 1 clear, and leaves the entry; both reply OK (R15, R16, R177). -/
def Obligations.ClearAndFetchWindow : Prop :=
  ∀ (s : State) (r : CfgRequest) (rest : List CfgRequest) (w : WindowId), s.TakesCfg r rest → r.cls = .privileged →
    (r.word0.extractLsb' 0 8).toNat = w.val →
      (r.Commands 0x02 → ∃ t : State, exec .clearWindow s = .next t ∧
        t = { s.afterCommand r rest .ok with windows := s.windows.set w { s.windows[w] with valid := false } } ∧
          ∀ a : Word, t.lookup a ≠ some w) ∧
        (r.Commands 0x03 → ∃ staging : Vector Word 8,
          exec .fetchWindow s = .next { s.afterCommand r rest .ok with staging := staging } ∧
            ∀ k : Fin 8, staging[k] = if k = 1 then s.readWord (0x100 + 8 * w.val + k.val) &&& 0x7FFFFFFF#32
              else s.readWord (0x100 + 8 * w.val + k.val))

/-- The words a window entry is fetched as give back the entry's own fields when they are read as staged fields: no
field of the layout is lost or moved (R16, R177). So a COMMIT-WINDOW after a FETCH-WINDOW of the same valid entry, the
window law holding, passes its checks and leaves the Window Table as it was (R12, R13, R14). -/
def Obligations.FetchThenCommitKeepsTheTable : Prop :=
  ∀ (s t u : State) (r q : CfgRequest) (rest : List CfgRequest) (w : WindowId), s.TakesCfg r (q :: rest) →
    s.replies.length < 3 → r.Commands 0x03 → r.cls = .privileged → q.Commands 0x01 → q.cls = .privileged →
    (r.word0.extractLsb' 0 8).toNat = w.val → (q.word0.extractLsb' 0 8).toNat = w.val → s.windows[w].valid = true →
    s.windowLaw →
    exec .fetchWindow s = .next t → exec .commitWindow t = .next u →
      stagedFields t.staging = ⟨s.windows[w].base, s.windows[w].sizeLog, BitVec.ofNat 2 s.windows[w].kind.code,
        BitVec.ofNat 8 s.windows[w].endpoint.val, s.windows[w].readAllowed, s.windows[w].writeAllowed,
        s.windows[w].privilegedOnly, s.windows[w].posted, s.windows[w].readCmd, s.windows[w].writeCmd,
        s.windows[w].addrWidth, s.windows[w].addrBase, s.windows[w].dummy⟩ ∧
        u.windows = s.windows ∧ u.lastCommand.status = .ok

/-! ### Endpoint commands -/

/-- ENABLE-ENDPOINT e from DISABLED: RANGE when sampleDelay is not below twice clockDiv; then CONFLICT when another endpoint
that is not DISABLED has its lane and select; otherwise ACTIVE with haltCause NONE and reply OK, a level sense that holds
being taken at once (R27, R118, R125). The record of a DISABLED endpoint is IDLE. -/
def Obligations.EnableEndpoint : Prop :=
  ∀ (s : State) (r : CfgRequest) (rest : List CfgRequest) (e : EndpointId), s.TakesCfg r rest → r.Commands 0x10 →
    r.cls = .privileged → (r.word0.extractLsb' 0 8).toNat = e.val → s.endpoints[e].state = .disabled →
    s.attn[e].state = .idle →
      let d := s.endpoints[e]
      let taken := ∃ x : EndpointId, x ≠ e ∧ s.endpoints[x].state ≠ .disabled ∧ s.endpoints[x].lane = d.lane ∧
        s.endpoints[x].select = d.select
      let t := { s.afterCommand r rest .ok with
        endpoints := s.endpoints.set e { d with state := .active, haltCause := .none } }
      (2 * d.clockDiv.toNat ≤ d.sampleDelay.toNat → exec .enableEndpoint s = .next (s.afterCommand r rest .range)) ∧
        (d.sampleDelay.toNat < 2 * d.clockDiv.toNat → taken →
          exec .enableEndpoint s = .next (s.afterCommand r rest .conflict)) ∧
        (d.sampleDelay.toNat < 2 * d.clockDiv.toNat → ¬ taken → ¬ s.LevelNow e →
          exec .enableEndpoint s = .next t) ∧
        (d.sampleDelay.toNat < 2 * d.clockDiv.toNat → ¬ taken → s.LevelNow e →
          exec .enableEndpoint s = .next { t with
            attn := s.attn.set e ⟨.pending, s.completions[e].getLast?, 0⟩ })

/-- DISABLE-ENDPOINT e: from ACTIVE, DISABLED at once with its record IDLE when the queue is empty and its lane's engine is
not inside a transaction for it, and DRAINING otherwise; from DRAINING, OK with nothing changed (R28, R125). -/
def Obligations.DisableEndpoint : Prop :=
  ∀ (s : State) (r : CfgRequest) (rest : List CfgRequest) (e : EndpointId), s.TakesCfg r rest → r.Commands 0x11 →
    r.cls = .privileged → (r.word0.extractLsb' 0 8).toNat = e.val →
      (s.endpoints[e].state = .active → s.queues[e] = [] → ¬ s.Inside e →
        exec .disableEndpoint s = .next { s.afterCommand r rest .ok with
          endpoints := s.endpoints.set e { s.endpoints[e] with state := .disabled }
          attn := s.attn.set e ⟨.idle, none, 0⟩ }) ∧
        (s.endpoints[e].state = .active → s.queues[e] ≠ [] ∨ s.Inside e →
          exec .disableEndpoint s = .next { s.afterCommand r rest .ok with
            endpoints := s.endpoints.set e { s.endpoints[e] with state := .draining } }) ∧
        (s.endpoints[e].state = .draining → exec .disableEndpoint s = .next (s.afterCommand r rest .ok))

/-- ABORT-ENDPOINT with no transaction in hand for e, and DISABLE-ENDPOINT from HALTED: every slot of the queue ends
ABORTED in queue order, the endpoint becomes DISABLED with drainAfterResume no and its record IDLE, haltCause is kept, and
the reply is OK (R21, R29, R30, R61, R125). The premises are that the queue holds no slot twice and that no slot of it has
a status but NONE or ABORTED (R41, R43). -/
def Obligations.QueueEndedByCommand : Prop :=
  ∀ (s : State) (r : CfgRequest) (rest : List CfgRequest) (e : EndpointId) (c : Instr), s.TakesCfg r rest →
    r.cls = .privileged → (r.word0.extractLsb' 0 8).toNat = e.val → s.queues[e].Nodup →
    (∀ i ∈ s.queues[e], s.slots[i].status = none ∨ s.slots[i].status = some .aborted) →
    (c = .abortEndpoint ∧ r.Commands 0x12 ∧
        (s.endpoints[e].state = .halted ∨
          (s.endpoints[e].state = .active ∨ s.endpoints[e].state = .draining) ∧ ¬ s.Inside e) ∨
      c = .disableEndpoint ∧ r.Commands 0x11 ∧ s.endpoints[e].state = .halted) →
      ∃ t : State, exec c s = .next t ∧ s.QueueAborted t e ∧
        t = { s.afterCommand r rest .ok with
          endpoints := s.endpoints.set e { s.endpoints[e] with state := .disabled, drainAfterResume := false }
          attn := s.attn.set e ⟨.idle, none, 0⟩
          slots := t.slots, queues := t.queues, completions := t.completions, freeBlocks := t.freeBlocks
          notices := t.notices, credits := t.credits
          link := { s.link with due := { s.link.due with ack := t.link.due.ack } } }

/-- ABORT-ENDPOINT with a transaction in hand for e, past LEAD: the endpoint is STOPPING, every slot behind the cut
has status ABORTED at once, and the engine finishes the unit in flight, goes to TRAIL at once from DUMMY and between
two units, with unitCount 0, or, when a link reset had already cut it, goes on as it was (R31, R73, R80, R83). unitOut
and between are the model's own fields, and unitCount in TRAIL its reading (assumptions 6, 10 and 13). -/
def Obligations.AbortCutsTheTransaction : Prop :=
  ∀ (s : State) (r : CfgRequest) (rest : List CfgRequest) (e : EndpointId), s.TakesCfg r rest → r.Commands 0x12 →
    r.cls = .privileged → (r.word0.extractLsb' 0 8).toNat = e.val →
    (s.endpoints[e].state = .active ∨ s.endpoints[e].state = .draining) → s.Inside e →
      let l := s.endpoints[e].lane
      let g := s.engines[l]
      let behind := if g.currentSlot = none then s.queues[e] else s.queues[e].tail
      let cutBy (h : Engine) (t : State) : Prop :=
        exec .abortEndpoint s = .next t ∧
          (∀ i : SlotId, t.slots[i] = if i ∈ behind then
            { s.slots[i] with status := some (s.slots[i].status.getD .aborted) } else s.slots[i]) ∧
          t = { s.afterCommand r rest .ok with
            endpoints := s.endpoints.set e { s.endpoints[e] with state := .stopping }
            slots := t.slots
            engines := s.engines.set l h }
      (g.engineState = .shifting → g.cut ≠ .link → g.phase ≠ some .lead → g.phase ≠ some .dummy → g.between = false →
        ∃ t, cutBy { g with cut := .abort } t) ∧
        (g.engineState = .shifting → g.cut ≠ .link → g.phase = some .dummy ∨ g.phase ≠ some .lead ∧ g.between = true →
          ∃ t, cutBy { g with cut := .abort, phase := some .trail, unitCount := 0, unitOut := [],
                              between := false } t) ∧
        (g.cut = .link → ∃ t, cutBy g t)

/-- ABORT-ENDPOINT with a transaction in hand for e, in WAIT_READY or LEAD: the select is released at once and the gap
begins, every slot of the queue ends ABORTED in queue order, and the endpoint becomes DISABLED; transactionsDone does
not advance (R31, R36, R80, R82). Premises as in QueueEndedByCommand. What the released engine clears is the model's
reading (assumption 24). -/
def Obligations.AbortBeforeTheFirstUnit : Prop :=
  ∀ (s : State) (r : CfgRequest) (rest : List CfgRequest) (e : EndpointId), s.TakesCfg r rest → r.Commands 0x12 →
    r.cls = .privileged → (r.word0.extractLsb' 0 8).toNat = e.val →
    (s.endpoints[e].state = .active ∨ s.endpoints[e].state = .draining) → s.Inside e → s.queues[e].Nodup →
    (∀ i ∈ s.queues[e], s.slots[i].status = none ∨ s.slots[i].status = some .aborted) →
      let l := s.endpoints[e].lane
      let g := s.engines[l]
      g.cut ≠ .link → g.engineState = .waitReady ∨ g.phase = some .lead →
        ∃ t : State, exec .abortEndpoint s = .next t ∧ s.QueueAborted t e ∧
          t.engines = s.engines.set l (g.afterRelease s.endpoints[e].gapBits) ∧
          t.endpoints = s.endpoints.set e { s.endpoints[e] with state := .disabled, drainAfterResume := false } ∧
          t.attn = s.attn.set e ⟨.idle, none, 0⟩ ∧ t.replies = (s.afterCommand r rest .ok).replies ∧
          t.lastCommand = (s.afterCommand r rest .ok).lastCommand ∧ t.cfgHanded = rest ∧ t.windows = s.windows ∧
          t.pool = s.pool ∧ t.immediate = s.immediate

/-- RESUME-ENDPOINT e from HALTED: ACTIVE when drainAfterResume is no; when it is yes, DRAINING, and DISABLED at once, its
record IDLE, when the queue is empty; haltCause becomes NONE and drainAfterResume no; reply OK (R33, R34, R125). -/
def Obligations.ResumeEndpoint : Prop :=
  ∀ (s : State) (r : CfgRequest) (rest : List CfgRequest) (e : EndpointId), s.TakesCfg r rest → r.Commands 0x13 →
    r.cls = .privileged → (r.word0.extractLsb' 0 8).toNat = e.val → s.endpoints[e].state = .halted →
      let goes (x : EpState) : State := { s.afterCommand r rest .ok with
        endpoints := s.endpoints.set e
          { s.endpoints[e] with state := x, haltCause := .none, drainAfterResume := false } }
      (s.endpoints[e].drainAfterResume = false → exec .resumeEndpoint s = .next (goes .active)) ∧
        (s.endpoints[e].drainAfterResume = true → s.queues[e] ≠ [] →
          exec .resumeEndpoint s = .next (goes .draining)) ∧
        (s.endpoints[e].drainAfterResume = true → s.queues[e] = [] →
          exec .resumeEndpoint s = .next { goes .disabled with attn := s.attn.set e ⟨.idle, none, 0⟩ })

/-- The commands turned away, with nothing changed but the reply list and the last-command record: STATE for an endpoint
command in a state that does not take it; RANGE for an index above 31 or 15; UNKNOWN for a code that names none of the
nine; and DENIED with offset 0 from class NORMAL, which leaves the record too (R27 to R30, R33, R164, R168, R176). -/
def Obligations.CommandsTurnedAway : Prop :=
  (∀ (s : State) (r : CfgRequest) (rest : List CfgRequest), s.TakesCfg r rest →
    (∀ e : EndpointId, r.cls = .privileged → (r.word0.extractLsb' 0 8).toNat = e.val →
      (r.Commands 0x10 → s.endpoints[e].state ≠ .disabled →
        exec .enableEndpoint s = .next (s.afterCommand r rest .state)) ∧
        (r.Commands 0x11 → s.endpoints[e].state = .disabled ∨ s.endpoints[e].state = .stopping →
          exec .disableEndpoint s = .next (s.afterCommand r rest .state)) ∧
        (r.Commands 0x12 → s.endpoints[e].state = .disabled ∨ s.endpoints[e].state = .stopping →
          exec .abortEndpoint s = .next (s.afterCommand r rest .state)) ∧
        (r.Commands 0x13 → s.endpoints[e].state ≠ .halted →
          exec .resumeEndpoint s = .next (s.afterCommand r rest .state))) ∧
      (∀ (c : Instr) (code : Byte), r.cls = .privileged → r.Commands code →
        ((c, code) ∈ [(Instr.commitWindow, 0x01#8), (.clearWindow, 0x02#8), (.fetchWindow, 0x03#8)] ∧
            31 < (r.word0.extractLsb' 0 8).toNat ∨
          (c, code) ∈ [(Instr.enableEndpoint, 0x10#8), (.disableEndpoint, 0x11#8), (.abortEndpoint, 0x12#8),
            (.resumeEndpoint, 0x13#8)] ∧ 15 < (r.word0.extractLsb' 0 8).toNat) →
          exec c s = .next (s.afterCommand r rest .range)) ∧
      ∀ (c : Instr) (code : Byte), r.cls = .normal → r.Commands code →
        (c, code) ∈ [(Instr.commitWindow, 0x01#8), (.clearWindow, 0x02#8), (.fetchWindow, 0x03#8),
          (.enableEndpoint, 0x10#8), (.disableEndpoint, 0x11#8), (.abortEndpoint, 0x12#8), (.resumeEndpoint, 0x13#8),
          (.clearCounters, 0x20#8)] →
          exec c s = .next (s.afterReply r rest .denied (some 0) [])) ∧
    ∀ (s : State) (r : CfgRequest) (rest : List CfgRequest) (code : Byte), s.TakesCfg r rest → r.Commands code →
    code ∉ [0x01#8, 0x02#8, 0x03#8, 0x10#8, 0x11#8, 0x12#8, 0x13#8, 0x20#8, 0x5A#8] →
      (r.cls = .privileged → exec .unknownCommand s = .next (s.afterCommand r rest .unknown)) ∧
        (r.cls = .normal → exec .unknownCommand s = .next (s.afterReply r rest .denied (some 0) []))

/-- CLEAR-COUNTERS: the five link counters and every transactionsDone become 0 in one step, the reply is OK whatever the
index, and nothing else changes (R169). -/
def Obligations.ClearCounters : Prop :=
  ∀ (s : State) (r : CfgRequest) (rest : List CfgRequest), s.TakesCfg r rest → r.Commands 0x20 →
    r.cls = .privileged → ∃ endpoints : Vector Descriptor 16,
      exec .clearCounters s = .next { s.afterCommand r rest .ok with
        link := { s.link with counters := ⟨0, 0, 0, 0, 0⟩ }, endpoints := endpoints } ∧
        ∀ e : EndpointId, endpoints[e] = { s.endpoints[e] with transactionsDone := 0 }

/-! ### Packets the part sends -/

/-- The words of every packet the part sends, field by field, each unnamed bit 0: the sequenced packets with kind,
sequence number and their own fields, the control packets with next or the totals (R128, chapter 11.1). The fields an
absent optional field would fill are 0; and the codes of the statuses, causes and credit kinds they carry. -/
def Obligations.PacketsAsSent : Prop :=
  (∀ (n : SeqNum) (tag : Byte) (st : MemStatus) (beats : List Word), beats.length ≤ 64 →
    OutPacket.words (.sequenced ⟨n, .readData tag st beats⟩) =
      (5#4 ++ n ++ 0#1 ++ BitVec.ofNat 4 st.code ++ tag ++ BitVec.ofNat 8 beats.length) :: beats) ∧
    (∀ (n : SeqNum) (tag : Byte) (st : MemStatus) (count : Nat), count ≤ 64 →
      OutPacket.words (.sequenced ⟨n, .writeDone tag st count⟩) =
        [6#4 ++ n ++ 0#1 ++ BitVec.ofNat 4 st.code ++ tag ++ BitVec.ofNat 8 count]) ∧
    (∀ (n : SeqNum) (r : CfgReply), r.data.length ≤ 16 →
      OutPacket.words (.sequenced ⟨n, .cfgReply r⟩) =
        (7#4 ++ n ++ 0#1 ++ BitVec.ofNat 4 r.status.code ++ r.tag ++ BitVec.ofNat 8 r.data.length) ::
          ((if r.offset = none then 0#1 else 1#1) ++ 0#27 ++ r.offset.getD 0) :: r.data) ∧
    (∀ (n : SeqNum) (e : EndpointId) (repeats : BitVec 8),
      OutPacket.words (.sequenced ⟨n, .attn e repeats⟩) = [11#4 ++ n ++ 0#9 ++ BitVec.ofNat 4 e.val ++ repeats]) ∧
    (∀ (n : SeqNum) (x : Notice), x.beatsDone.getD 0 ≤ 64 →
      OutPacket.words (.sequenced ⟨n, .notice x⟩) =
        [12#4 ++ n ++ 0#1 ++ BitVec.ofNat 2 x.cause.code ++ BitVec.ofBool x.more ++ BitVec.ofBool x.endpoint.isSome ++
            BitVec.ofBool x.tag.isSome ++ BitVec.ofBool x.status.isSome ++ BitVec.ofBool x.beatsDone.isSome ++
            BitVec.ofBool x.creditKind.isSome ++ 0#12,
          BitVec.ofNat 4 (x.endpoint.elim 0 Fin.val) ++ BitVec.ofNat 2 (x.creditKind.elim 0 CreditKind.code) ++ 0#2 ++
            BitVec.ofNat 4 (x.status.elim 0 MemStatus.code) ++ 0#4 ++ x.tag.getD 0 ++
            BitVec.ofNat 8 (x.beatsDone.getD 0)]) ∧
    (∀ (n : SeqNum) (t : Totals),
      OutPacket.words (.ack n t) = [8#4 ++ n ++ 0#21, 0#8 ++ t.req ++ t.data ++ t.mgmt]) ∧
    (∀ n : SeqNum, OutPacket.words (.nak n) = [9#4 ++ n ++ 0#21]) ∧
    (∀ t : Totals, OutPacket.words (.syncAck t) = [14#4 ++ 0#28, 0#8 ++ t.req ++ t.data ++ t.mgmt]) ∧
    (∀ c : DownCause, OutPacket.words (.syncRequest c) = [15#4 ++ 0#27 ++ BitVec.ofNat 1 c.code]) ∧
    [MemStatus.ok, .align, .unmapped, .denied, .epDisabled, .epHalted, .busy, .timeout, .aborted].map
      MemStatus.code = [0, 1, 2, 3, 4, 5, 6, 7, 8] ∧
    [CfgStatus.ok, .denied, .range, .locked, .overlap, .conflict, .state, .unknown].map CfgStatus.code =
      [0, 1, 2, 3, 4, 5, 6, 7] ∧
    [NoticeCause.postedFail, .creditOverrun, .malformed].map NoticeCause.code = [1, 2, 3] ∧
    [CreditKind.request, .data, .management].map CreditKind.code = [1, 2, 3] ∧
    [DownCause.deviceReset, .linkFailure].map DownCause.code = [0, 1]

/-- The control packets due are chosen in the order SYNC-ACK, NAK, ACK, SYNC-REQUEST, each at its own choice, at every
fill of the replay buffer, taking no sequence number and no place; and what each carries and changes (R131, R132,
R135, R138, R139, R140, R158). A NAK leaves due an ACK that a changed total or a refresh expiry keeps due. ackRefresh
is the model's own field, and that the SYNC-ACK carries the initial totals whatever was granted since its reading
(assumptions 7 and 21). -/
def Obligations.ControlPacketsSent : Prop :=
  ∀ s : State, s.resetHeld = false → s.transmitter = .free →
    (s.link.due.syncAck = true → exec .syncAck s = .next { s with
      link := { s.link with due := { s.link.due with syncAck := false },
                            refreshTimer := some (s.link.replayTimeout.toNat * 4) }
      transmitter := .sending (.syncAck ⟨64, 128, 4⟩) }) ∧
      (s.link.due.syncAck = false → s.link.due.nak = true → exec .nak s = .next { s with
        link := { s.link with ackPending := false, due := { s.link.due with
          nak := false
          ack := s.link.due.ack && (s.link.ackRefresh || decide (s.totals ≠ s.link.reportedTotals)) } }
        transmitter := .sending (.nak s.link.expectedSeq) }) ∧
      (s.link.due.syncAck = false → s.link.due.nak = false → s.link.due.ack = true → exec .ack s = .next { s with
        link := { s.link with due := { s.link.due with ack := false }, ackPending := false, ackRefresh := false,
                              reportedTotals := s.totals, refreshTimer := some (s.link.replayTimeout.toNat * 4) }
        transmitter := .sending (.ack s.link.expectedSeq s.totals) }) ∧
      (s.link.due = ⟨false, false, false, true⟩ → exec .syncRequest s = .next { s with
        link := { s.link with due := ⟨false, false, false, false⟩ }
        transmitter := .sending (.syncRequest s.link.downCause) })

/-- RESEND: with no control packet due, the packet numbered replayPointer goes out again unchanged, replayPointer advances,
and the replay ends when it is the newest held; no place is needed and no slot or credit changes (R145). The premise is
that the buffer's packets stand numbered (R141). -/
def Obligations.PacketResent : Prop :=
  ∀ (s : State) (p : SeqPacket), s.resetHeld = false → s.transmitter = .free →
    s.link.due = ⟨false, false, false, false⟩ → s.link.replayInProgress = true → s.link.bufferLaw →
    p ∈ s.link.replayBuffer → p.seq = s.link.replayPointer →
      exec .resend s = .next { s with
        link := { s.link with
          replayPointer := s.link.replayPointer + 1
          replayInProgress := decide (s.link.replayPointer + 1 ≠ s.link.outboundNext) }
        transmitter := .sending (.sequenced p) }

/-- A new sequenced packet takes outboundNext and the tail of the replay buffer, and starts replayTimer on an empty buffer;
CFG_REPLY, NOTICE and ATTN are chosen in that order below 16 packets, each leaving its source, a CFG_REPLY granting one
management credit (R103, R104, R105, R114, R121, R141, R144, R156, R166). -/
def Obligations.RepliesNoticesAttentionsSent : Prop :=
  (∀ (s : State) (body : SeqBody), s.enterReplayBuffer body = { s with
    link := { s.link with
      replayBuffer := s.link.replayBuffer ++ [⟨s.link.outboundNext, body⟩]
      outboundNext := s.link.outboundNext + 1
      replayTimer := if s.link.replayBuffer = [] then some (s.link.replayTimeout.toNat * 8) else s.link.replayTimer }
    transmitter := .sending (.sequenced ⟨s.link.outboundNext, body⟩) }) ∧
    ∀ s : State, s.SendsSequenced → s.link.replayBuffer.length < 16 →
      (∀ (r : CfgReply) (rs : List CfgReply), s.replies = r :: rs → exec .cfgReply s =
        .next ({ s.enterReplayBuffer (.cfgReply r) with replies := rs }.grantCredits 0 0 1)) ∧
        (∀ (n : Notice) (ns : List Notice), s.replies = [] → s.notices = n :: ns →
          exec .notice s = .next { s.enterReplayBuffer (.notice n) with notices := ns }) ∧
        ∀ e : EndpointId, s.replies = [] → s.notices = [] → s.attn[e].state = .pending → s.attn[e].fence = none →
          (∀ x : EndpointId, x < e → ¬ (s.attn[x].state = .pending ∧ s.attn[x].fence = none)) →
            exec .attn s = .next { s.enterReplayBuffer (.attn e s.attn[e].repeats) with
              attn := s.attn.set e ⟨.sent, none, s.attn[e].repeats⟩ }

/-- READ_DATA and WRITE_DONE: the head of the immediate list, and only when that is empty the head of the first completion
list from nextCompletion on, is answered from its own fields and blocks; the slot is freed, its credits granted, a
completion's fences cleared and nextCompletion moved past its endpoint (R62, R99, R100, R105, R106, R107, R120, R155). -/
def Obligations.SlotRepliesSent : Prop :=
  ∀ (s : State) (i : SlotId) (is : List SlotId) (st : MemStatus), s.SendsSlotReplies → s.slots[i].status = some st →
    let sl := s.slots[i]
    let body : SeqBody := match sl.direction with
      | .read => .readData sl.tag st ((List.range sl.beatsDone).map fun k =>
        (sl.blocks[k / 8]?.bind fun b => (s.pool[b])[k % 8]?).getD 0)
      | .write => .writeDone sl.tag st sl.beatsDone
    (s.immediate = i :: is → exec (replyCommand sl.direction) s =
      .next (({ s.enterReplayBuffer body with immediate := is }.freeSlot i).grantCredits 1 sl.blocks.length 0)) ∧
      ∀ k : Fin 16, s.immediate = [] → (∀ j : Fin 16, j < k → s.completions[s.nextCompletion + j] = []) →
        s.completions[s.nextCompletion + k] = i :: is →
          let e := s.nextCompletion + k
          ∃ attn : Vector AttnRecord 16,
            (∀ x : EndpointId, attn[x] = if s.attn[x].state = .pending ∧ s.attn[x].fence = some i then
              { s.attn[x] with fence := none } else s.attn[x]) ∧
              exec (replyCommand sl.direction) s =
                .next ({ ({ s.enterReplayBuffer body with
                  nextCompletion := e + 1, completions := s.completions.set e is }.freeSlot i) with
                    attn := attn }.grantCredits 1 sl.blocks.length 0)

/-- At one choice at most one packet goes out: of the ten packet commands, at most one changes the state; a data reply
goes out only below 13 packets and any other new sequenced packet only below 16, so that no choice takes the replay
buffer past 16 packets (R103, R104). That a packet which is not the choice changes nothing is the model's choice
(assumption 2). -/
def Obligations.OnePacketAtAChoice : Prop :=
  let sends : List Instr :=
    [.ack, .nak, .syncAck, .syncRequest, .resend, .cfgReply, .notice, .attn, .readData, .writeDone]
  (∀ (s : State) (c d : Instr), c ∈ sends → d ∈ sends → exec c s ≠ .next s → exec d s ≠ .next s → c = d) ∧
    ∀ (s t : State) (c : Instr), c ∈ sends → exec c s = .next t → t ≠ s →
      (c = .readData ∨ c = .writeDone → s.link.replayBuffer.length < 13) ∧
        (t.link.replayBuffer.length ≤ s.link.replayBuffer.length ∨
          t.link.replayBuffer.length = s.link.replayBuffer.length + 1 ∧ t.link.replayBuffer.length ≤ 16)

/-! ### Lanes -/

/-- GRANT: with the engine IDLE, the first eligible endpoint from nextSelect on is granted; its head becomes ACTIVE,
and the engine, the select, the clock's idle level and nextSelect are set as R67 and R89 give; a search that finds
none, or an engine that is not IDLE, changes nothing. An endpoint is eligible on its lane when ACTIVE or DRAINING with
work left: a head QUEUED or ACTIVE, with status NONE and a transaction not yet started (R46, R59, R67, R71, R72, R87,
R88, R89). The premise on selects is R27's law. That an event without its cause changes nothing is the model's choice,
unitOut, laneOut, between, late and completing its own fields, and value as the low 32 bits of the first value its
reading (assumptions 2, 6, 10, 11 and 15). -/
def Obligations.Grant : Prop :=
  ∀ (s : State) (l : LaneId), s.resetHeld = false →
    (s.engines[l].engineState ≠ .idle → exec (.grant l) s = .next s) ∧
      ((∀ x : EndpointId, s.eligible l x = false) → exec (.grant l) s = .next s) ∧
      (∀ x : EndpointId, s.eligible l x = true ↔ s.endpoints[x].lane = l ∧
        (s.endpoints[x].state = .active ∨ s.endpoints[x].state = .draining) ∧ s.workLeft x = true) ∧
      (∀ x : EndpointId,
        let h := s.engines[s.endpoints[x].lane]
        s.workLeft x = true ↔ ∃ (i : SlotId) (is : List SlotId) (t : Snapshot), s.queues[x] = i :: is ∧
          (s.slots[i].state = .queued ∨ s.slots[i].state = .active) ∧ s.slots[i].status = none ∧
          s.slots[i].translation = some t ∧
          (t.kind ≠ .register → s.slots[i].state = .queued) ∧
          (t.kind = .register → s.slots[i].beatsDone +
            (if (h.engineState = .waitReady ∨ h.engineState = .shifting) ∧ h.currentSlot = some i then 1 else 0) <
              s.slots[i].length.toNat)) ∧
      ∀ (j : Fin 4) (e : EndpointId) (i : SlotId) (is : List SlotId) (t : Snapshot), s.engines[l].engineState = .idle →
        (∀ x y : EndpointId, x ≠ y → s.endpoints[x].state ≠ .disabled → s.endpoints[y].state ≠ .disabled →
          s.endpoints[x].lane = s.endpoints[y].lane → s.endpoints[x].select ≠ s.endpoints[y].select) →
        s.eligible l e = true → s.endpoints[e].select = s.engines[l].nextSelect + j →
        (∀ (x : EndpointId) (j' : Fin 4), s.eligible l x = true →
          s.endpoints[x].select = s.engines[l].nextSelect + j' → j ≤ j') →
        s.queues[e] = i :: is → s.slots[i].translation = some t →
          let d := s.endpoints[e]
          let sl := s.slots[i]
          let g := s.engines[l]
          exec (.grant l) s = .next { s with
            slots := s.slots.set i { sl with state := .active }
            engines := s.engines.set l { g with
              currentEndpoint := some e
              currentSlot := some i
              cut := .none
              beatIndex := if t.kind = .register then sl.beatsDone else 0
              wordsLeft := if t.kind = .register then 1 else sl.length.toNat
              value := if t.kind = .stream then 0
                else BitVec.ofNat 32 (if t.kind = .register then t.firstValue + sl.beatsDone else t.firstValue)
              fill := d.fillWord
              div := d.clockDiv
              idleLevel := decide (2 ≤ d.clockMode.toNat)
              selects := ~~~(1#4 <<< d.select.val)
              nextSelect := d.select + 1
              engineState := if d.readyMode = .wait then .waitReady else .shifting
              phase := if d.readyMode = .wait then none else some .lead
              unitCount := if d.readyMode = .wait then g.unitCount else 0
              readyTimer := if d.readyMode = .wait then some d.readyTimeout else none
              unitOut := []
              laneOut := []
              between := false
              late := decide (sl.direction = .read) && decide (2 * d.clockDiv.toNat <
                (if d.clockMode.getLsbD 0 then 2 * d.clockDiv.toNat else d.clockDiv.toNat) + d.sampleDelay.toNat)
              completing := none } }

/-- TRANSMISSION_END makes the transmitter FREE. READY_SEEN in WAIT_READY stops readyTimer and enters SHIFTING, phase
LEAD; GAP_END stops gapTimer, clears currentEndpoint and enters IDLE; in every other engine state each of the two
changes nothing (R66, R68, R79, R102). The last, for GAP_END, is the model's choice (assumption 2). -/
def Obligations.TransmissionEndReadySeenGapEnd : Prop :=
  (∀ (s : State) (l : LaneId), s.resetHeld = false →
    let g := s.engines[l]
    (g.engineState = .waitReady → exec (.readySeen l) s = .next { s with
      engines := s.engines.set l { g with engineState := .shifting, phase := some .lead, unitCount := 0, readyTimer := none } }) ∧
      (g.engineState ≠ .waitReady → exec (.readySeen l) s = .next s) ∧
      (g.engineState = .gap → exec (.gapEnd l) s = .next { s with
        engines := s.engines.set l { g with engineState := .idle, gapTimer := none, currentEndpoint := none } }) ∧
      (g.engineState ≠ .gap → exec (.gapEnd l) s = .next s)) ∧
    ∀ s : State, s.resetHeld = false → exec .transmissionEnd s = .next { s with transmitter := .free }

/-- READY_TIMEOUT in WAIT_READY: the select is released at once and the gap begins at the endpoint's gapBits, the head
ends TIMEOUT with the beatsDone it has, and the endpoint becomes HALTED, with drainAfterResume yes if it was DRAINING
(R35, R61, R69, R79); in every other engine state it changes nothing. The last is the model's choice, and what the
released engine clears its reading (assumptions 2 and 24). -/
def Obligations.ReadyTimeout : Prop :=
  ∀ (s : State) (l : LaneId), s.resetHeld = false →
    (s.engines[l].engineState ≠ .waitReady → exec (.readyTimeout l) s = .next s) ∧
      ∀ (e : EndpointId) (i : SlotId), s.engines[l].engineState = .waitReady →
        s.engines[l].currentEndpoint = some e → s.engines[l].currentSlot = some i →
          let d := s.endpoints[e]
          exec (.readyTimeout l) s = .next { ({ s with
            engines := s.engines.set l (s.engines[l].afterRelease d.gapBits) }.endSlot e i .timeout) with
              endpoints := s.endpoints.set e { d with
                state := .halted, haltCause := .readyTimeout, drainAfterResume := decide (d.state = .draining) } }

/-- PHASE_END in SHIFTING: LEAD, a byte, a dummy bit period, or the bits of a read word whose last input comes later,
end; the next present part in the order COMMAND, ADDRESS, DUMMY, DATA, TRAIL begins, or the next byte or bit period of
the part is awaited, unitCount counting them; between two units, the next one begins and its levels are latched: the
byte's bits in bitOrder, bit by bit, the most significant address byte first, low in DUMMY. Under a cut the byte or
word in flight ends and TRAIL follows. In a clocking bit period LnCLK leaves its idle level at div and returns at
twice div, and LnDO changes as the clockMode gives (R7, R65, R70 to R74, R80). That nothing changes where it is no
event is the model's choice, unitOut, laneOut, between, late and completing its own fields, a dummy bit period one
step and unitCount 0 in TRAIL its readings (assumptions 2, 6, 10, 11, 13 and 14), and so are the level before it up
to the leading edge in modes 1 and 3 where DUMMY or a read is to be low, and low between two units (assumption 35). -/
def Obligations.PhaseEnd : Prop :=
  (∀ (s : State) (l : LaneId) (e : EndpointId) (i : SlotId) (sl : Slot) (t : Snapshot), s.resetHeld = false →
    s.InHand l e i sl t → s.engines[l].engineState = .shifting →
      let g := s.engines[l]
      let d := s.endpoints[e]
      let addressed := 1 ≤ t.addrWidth.toNat ∧ t.addrWidth.toNat ≤ 4
      let dummied := sl.direction = .read ∧ 1 ≤ t.dummy.toNat
      let addressLevels :=
        bitsOut d.bitOrder 8 ((g.value >>> (8 * (t.addrWidth.toNat - 1 - g.unitCount))) &&& 0xFF#32)
      let dataLevels := s.dataBits g sl t (match g.completing with
        | none => g.unitCount
        | some n => n + 1)
      let becomes (h : Engine) : Prop := exec (.phaseEnd l) s = .next { s with engines := s.engines.set l h }
      let ended : Engine := { g with laneOut := g.laneOut ++ g.unitOut }
      let starts (h : Engine) (p : Phase) : Engine :=
        { h with phase := some p, unitCount := 0, between := true, unitOut := [] }
      let afterAddress (h : Engine) : Prop :=
        (dummied → becomes { h with phase := some .dummy, unitCount := 0, between := false, unitOut := [false] }) ∧
          (¬ dummied → becomes (starts h .data))
      let afterCommand (h : Engine) : Prop :=
        (addressed → becomes (starts h .address)) ∧ (¬ addressed → afterAddress h)
      (g.between = false → g.cut = .none →
        (g.phase = some .lead →
          (t.cmd ≠ none → becomes (starts g .command)) ∧ (t.cmd = none → afterCommand g)) ∧
          (g.phase = some .command → afterCommand ended) ∧
          (g.phase = some .address → g.unitCount + 1 < t.addrWidth.toNat →
            becomes { ended with unitCount := g.unitCount + 1, between := true, unitOut := [] }) ∧
          (g.phase = some .address → t.addrWidth.toNat ≤ g.unitCount + 1 → afterAddress ended) ∧
          (g.phase = some .dummy → g.unitCount + 1 < t.dummy.toNat →
            becomes { ended with unitCount := g.unitCount + 1, unitOut := [false] }) ∧
          (g.phase = some .dummy → t.dummy.toNat ≤ g.unitCount + 1 → becomes (starts ended .data)) ∧
          (g.phase = some .data → g.late = true → g.completing = none → 1 ≤ g.wordsLeft →
            becomes { ended with completing := some g.unitCount, between := true, unitOut := [] }) ∧
          (g.phase = some .data → g.late = true → g.completing = none → g.wordsLeft = 0 →
            becomes { ended with completing := some g.unitCount, phase := some .trail, unitCount := 0, unitOut := [] })) ∧
        (g.between = true →
          (∀ b : Byte, g.phase = some .command → t.cmd = some b →
            becomes { g with between := false, unitOut := bitsOut d.bitOrder 8 (b.setWidth 32) }) ∧
            (g.phase = some .address → g.completing = none →
              becomes { g with between := false, unitOut := addressLevels }) ∧
            (g.phase = some .data →
              becomes { g with between := false, unitOut := dataLevels, wordsLeft := g.wordsLeft - 1 }))) ∧
    (∀ (s : State) (l : LaneId), s.resetHeld = false →
      let g := s.engines[l]
      let trail : Engine := { g with
        phase := some .trail, unitCount := 0, unitOut := [], laneOut := g.laneOut ++ g.unitOut }
      (g.engineState = .shifting → g.between = false → g.cut ≠ .none →
        g.phase = some .command ∨ g.phase = some .address ∨ g.phase = some .dummy →
          exec (.phaseEnd l) s = .next { s with engines := s.engines.set l trail }) ∧
        (g.engineState = .shifting → g.between = false → g.cut ≠ .none → g.phase = some .data → g.late = true →
          g.completing = none → exec (.phaseEnd l) s = .next { s with
            engines := s.engines.set l { trail with completing := some g.unitCount } }) ∧
        (g.engineState ≠ .shifting ∨ g.between = false ∧ (g.phase = some .trail ∨
          g.phase = some .data ∧ (g.late = false ∨ g.completing ≠ none)) → exec (.phaseEnd l) s = .next s)) ∧
    (∀ (o : BitOrder) (w : Word) (j : Fin 8), (bitsOut o 8 w).length = 8 ∧
      (bitsOut o 8 w)[j.val]? = some (w.getLsbD (if o = .lsbFirst then j.val else 7 - j.val))) ∧
    ∀ (g : Engine) (mode : BitVec 2) (k n : Nat),
      (g.clocking = true ↔ g.engineState = .shifting ∧ g.between = false ∧
        (g.phase = some .command ∨ g.phase = some .address ∨ g.phase = some .dummy ∨ g.phase = some .data)) ∧
        (g.clocking = false → g.clockLevelAt k = g.idleLevel ∧ g.dataLevelAt mode n k = false) ∧
        (g.clocking = true →
          (k < g.div.toNat → g.clockLevelAt k = g.idleLevel) ∧
            (g.div.toNat ≤ k → k < 2 * g.div.toNat → g.clockLevelAt k = !g.idleLevel) ∧
            (mode = 0 ∨ mode = 2 ∨ g.div.toNat ≤ k → g.dataLevelAt mode n k = g.unitOut.getD n false) ∧
            (mode = 1 ∨ mode = 3 → k < g.div.toNat → g.dataLevelAt mode (n + 1) k = g.unitOut.getD n false ∧
              g.dataLevelAt mode 0 k = g.laneOut.getLast?.getD false))

/-- WORD_COMPLETE with a slot in hand: beatsDone rises by one; a read word is assembled in bitOrder from wordSize
inputs and stored, zero above, in its beat. It completes as its bit periods end, the next word being awaited, or TRAIL
following after the last word or under a cut; a word whose bit periods ended before completes when its last input is
taken, in the next word's bit periods or in TRAIL (R59, R65, R72 to R76, R80, R81). unitOut, laneOut, between, late
and completing are the model's own fields, and unitCount 0 in TRAIL its reading (assumptions 6, 10, 11 and 13). -/
def Obligations.WordComplete : Prop :=
  ∀ (s : State) (l : LaneId) (e : EndpointId) (i : SlotId) (sl : Slot) (t : Snapshot) (din : Word),
    s.resetHeld = false → s.InHand l e i sl t → s.engines[l].engineState = .shifting →
      let g := s.engines[l]
      let d := s.endpoints[e]
      let completes (n : Nat) (h : Engine) : Prop := ∃ pool : Vector (Vector Word 8) 128,
        exec (.wordComplete l din) s = .next { s with
          slots := s.slots.set i { sl with beatsDone := sl.beatsDone + 1 }, pool := pool
          engines := s.engines.set l h } ∧
          (sl.direction = .write → pool = s.pool) ∧
          ∀ b : BlockId, sl.direction = .read → sl.blocks[(g.beatIndex + n) / 8]? = some b → d.wordSize.toNat ≤ 32 →
            (∀ c : BlockId, c ≠ b → pool[c] = s.pool[c]) ∧
              (∀ k : Fin 8, k.val ≠ (g.beatIndex + n) % 8 → pool[b][k] = s.pool[b][k]) ∧
              ∀ (k : Fin 8) (m : Nat), k.val = (g.beatIndex + n) % 8 → (pool[b][k]).getLsbD m =
                (decide (m < d.wordSize.toNat) &&
                  din.getLsbD (if d.bitOrder = .lsbFirst then m else d.wordSize.toNat - 1 - m))
      (g.phase = some .data → g.between = false → g.late = false → g.completing = none →
        (g.cut ≠ .none ∨ g.wordsLeft = 0 → completes g.unitCount { g with
          phase := some .trail, unitCount := 0, unitOut := [], laneOut := g.laneOut ++ g.unitOut }) ∧
          (g.cut = .none → 1 ≤ g.wordsLeft → completes g.unitCount { g with
            unitCount := g.unitCount + 1, between := true, unitOut := [], laneOut := g.laneOut ++ g.unitOut })) ∧
        ∀ n : Nat, g.completing = some n →
          (g.phase = some .data → completes n { g with completing := none, unitCount := g.unitCount + 1 }) ∧
            (g.phase = some .trail → completes n { g with completing := none })

/-- WORD_COMPLETE once a link reset has freed the slot: the word is neither stored nor counted; TRAIL follows as its
bit periods end, or its last input is taken in what follows; without a word that ends or completes it changes nothing
(R72, R73, R81). What LnDO carries in a data word: a write word's bits, the fill word's in a STREAM read, low in the
other reads; MSB_FIRST from bit wordSize − 1 down, LSB_FIRST from bit 0 up (R74, R75, R76, R77). That it changes
nothing elsewhere is the model's choice, unitOut, laneOut, between, late and completing its own fields, and unitCount
0 in TRAIL, kept when a last input is taken there, its reading (assumptions 2, 6, 10, 11 and 13). -/
def Obligations.WordCompleteAfterALinkReset : Prop :=
  (∀ (s : State) (l : LaneId) (din : Word), s.resetHeld = false →
    let g := s.engines[l]
    (g.engineState = .shifting → g.phase = some .data → g.between = false → g.late = false → g.completing = none →
      g.currentSlot = none → exec (.wordComplete l din) s = .next { s with engines := s.engines.set l { g with
        phase := some .trail, unitCount := 0, unitOut := [], laneOut := g.laneOut ++ g.unitOut } }) ∧
      (g.engineState = .shifting → g.phase = some .trail → g.completing ≠ none → g.currentSlot = none →
        exec (.wordComplete l din) s = .next { s with engines := s.engines.set l { g with completing := none } }) ∧
      (g.engineState = .shifting → g.phase = some .data → g.completing ≠ none → g.currentSlot = none →
        exec (.wordComplete l din) s = .next { s with engines := s.engines.set l { g with
          completing := none, unitCount := g.unitCount + 1 } }) ∧
      (g.engineState ≠ .shifting ∨ g.completing = none ∧ (g.phase ≠ some .data ∨ g.between = true ∨ g.late = true) →
        exec (.wordComplete l din) s = .next s)) ∧
    (∀ (o : BitOrder) (n : Nat) (w : Word) (j : Nat), (bitsOut o n w).length = n ∧ (j < n →
      (bitsOut o n w)[j]? = some (w.getLsbD (if o = .lsbFirst then j else n - 1 - j)))) ∧
    ∀ (s : State) (g : Engine) (e : EndpointId) (sl : Slot) (t : Snapshot) (j : Nat), g.currentEndpoint = some e →
      let d := s.endpoints[e]
      (∀ b : BlockId, sl.direction = .write → sl.blocks[(g.beatIndex + j) / 8]? = some b →
        ∀ k : Fin 8, k.val = (g.beatIndex + j) % 8 →
          s.dataBits g sl t j = bitsOut d.bitOrder d.wordSize.toNat (s.pool[b][k])) ∧
        (sl.direction = .read → t.kind = .stream →
          s.dataBits g sl t j = bitsOut d.bitOrder d.wordSize.toNat g.fill) ∧
        (sl.direction = .read → t.kind ≠ .stream → s.dataBits g sl t j = List.replicate d.wordSize.toNat false)

/-- RELEASE of a transaction that was not cut, every input taken: the select is released and the gap begins,
transactionsDone advances, and the head stays ACTIVE when it is a REGISTER head with beats left; otherwise it ends OK,
and a DRAINING endpoint whose queue is then empty becomes DISABLED with its record IDLE (R22, R34, R59, R60, R78,
R79). What the released engine clears is the model's reading (assumption 24). -/
def Obligations.ReleaseAfterTheLastWord : Prop :=
  ∀ (s : State) (l : LaneId) (e : EndpointId) (i : SlotId) (sl : Slot) (t : Snapshot), s.resetHeld = false →
    s.InHand l e i sl t → s.engines[l].engineState = .shifting → s.engines[l].phase = some .trail →
    s.engines[l].cut = .none → s.engines[l].completing = none →
      let counted : State := { s with
        engines := s.engines.set l (s.engines[l].afterRelease s.endpoints[e].gapBits)
        endpoints := s.endpoints.set e
          { s.endpoints[e] with transactionsDone := s.endpoints[e].transactionsDone + 1 } }
      let more := t.kind = .register ∧ sl.beatsDone < sl.length.toNat
      let ended := counted.endSlot e i .ok
      (more → exec (.release l) s = .next counted) ∧
        (¬ more → s.endpoints[e].state ≠ .draining ∨ s.queues[e].erase i ≠ [] →
          exec (.release l) s = .next ended) ∧
        (¬ more → s.endpoints[e].state = .draining → s.queues[e].erase i = [] →
          exec (.release l) s = .next { ended with
            endpoints := ended.endpoints.set e { ended.endpoints[e] with state := .disabled }
            attn := ended.attn.set e ⟨.idle, none, 0⟩ })

/-- RELEASE of a transaction that was cut, which never advances transactionsDone: by ABORT, and by a link reset for a
STOPPING endpoint, the queue ends ABORTED in order and the endpoint becomes DISABLED; by a link reset, a DRAINING
endpoint becomes DISABLED when its queue is empty, and otherwise the endpoint keeps its state (R36, R37, R78, R82).
Premises as in QueueEndedByCommand. The select stays asserted until every input has been taken (R72), and outside
TRAIL a RELEASE changes nothing; the last is the model's choice, and what the released engine clears its reading
(assumptions 2 and 24). -/
def Obligations.ReleaseAfterACut : Prop :=
  ∀ (s : State) (l : LaneId), s.resetHeld = false →
    (s.engines[l].engineState ≠ .shifting ∨ s.engines[l].phase ≠ some .trail ∨ s.engines[l].completing ≠ none →
      exec (.release l) s = .next s) ∧
      ∀ e : EndpointId, s.engines[l].engineState = .shifting → s.engines[l].phase = some .trail →
        s.engines[l].completing = none → s.engines[l].currentEndpoint = some e →
          let d := s.endpoints[e]
          let engines := s.engines.set l (s.engines[l].afterRelease d.gapBits)
          (s.engines[l].cut = .abort ∨ s.engines[l].cut = .link ∧ d.state = .stopping → s.queues[e].Nodup →
            (∀ i ∈ s.queues[e], s.slots[i].status = none ∨ s.slots[i].status = some .aborted) →
              ∃ t : State, exec (.release l) s = .next t ∧ s.QueueAborted t e ∧ t = { s with
                engines := engines
                endpoints := s.endpoints.set e { d with state := .disabled, drainAfterResume := false }
                attn := s.attn.set e ⟨.idle, none, 0⟩
                slots := t.slots, queues := t.queues, completions := t.completions, freeBlocks := t.freeBlocks
                notices := t.notices, credits := t.credits
                link := { s.link with due := { s.link.due with ack := t.link.due.ack } } }) ∧
            (s.engines[l].cut = .link → d.state = .draining → s.queues[e] = [] →
              exec (.release l) s = .next { s with
                engines := engines, endpoints := s.endpoints.set e { d with state := .disabled }
                attn := s.attn.set e ⟨.idle, none, 0⟩ }) ∧
            (s.engines[l].cut = .link → d.state = .draining ∧ s.queues[e] ≠ [] ∨ d.state = .active →
              exec (.release l) s = .next { s with engines := engines })

/-! ### Attentions -/

/-- ATTENTION_SAMPLE: the sample is kept; an IDLE record of an endpoint that is not DISABLED takes an attention when its
sense condition holds, with the fence at the tail of its completion list; a PENDING or SENT record counts an edge up to
255; every other record stays (R116, R117, R118, R122). -/
def Obligations.AttentionSample : Prop :=
  ∀ (s : State) (levels : BitVec 16), s.resetHeld = false → ∃ attn : Vector AttnRecord 16,
    exec (.attentionSample levels) s = .next { s with attn := attn, lastSample := some levels } ∧
      ∀ e : EndpointId,
        (s.endpoints[e].state = .disabled → attn[e] = s.attn[e]) ∧
          (s.endpoints[e].state ≠ .disabled → s.attn[e].state = .idle →
            (s.LevelMet e levels ∨ s.EdgeMet e levels → attn[e] = ⟨.pending, s.completions[e].getLast?, 0⟩) ∧
              (¬ s.LevelMet e levels → ¬ s.EdgeMet e levels → attn[e] = s.attn[e])) ∧
          (s.endpoints[e].state ≠ .disabled → s.attn[e].state ≠ .idle →
            (s.EdgeMet e levels → attn[e] = { s.attn[e] with
              repeats := if s.attn[e].repeats = 255 then 255 else s.attn[e].repeats + 1 }) ∧
              (¬ s.EdgeMet e levels → attn[e] = s.attn[e]))

/-! ### The laws of the part -/

/-- Every law of the part holds right after reset. -/
def Obligations.LawsHoldAtReset : Prop := State.reset.law

/-- No two valid window entries cover a common address, and every valid entry passes the COMMIT-WINDOW checks on its
own fields: size, alignment, address width, a REGISTER entry's command byte or address phase, and the fit (checks 1,
2, 5, 6 and 7; a kind and an endpoint it has by its type): every step keeps it (R1, R12, R13, R14). -/
def Obligations.WindowLawKept : Prop :=
  ∀ s t : State, s.windowLaw → step s = .next t → t.windowLaw

/-- The replay buffer holds at most 16 packets with consecutive numbers, only the control packets of the link's state are
due, an unreported total keeps an ACK due, and a replay's packet is held: every step keeps it (R131, R138 to R141, R146). -/
def Obligations.LinkLawKept : Prop :=
  ∀ s t : State, s.linkLaw → step s = .next t → t.linkLaw

/-- On each lane at most one select is asserted, from a grant to its release, for an endpoint of the lane that is ACTIVE,
DRAINING or STOPPING, and no two endpoints that are not DISABLED share a lane and select: every step keeps it (R27, R86,
R95). -/
def Obligations.LaneLawKept : Prop :=
  ∀ s t : State, s.laneLaw → step s = .next t → t.laneLaw

/-- The attention record of a DISABLED endpoint is IDLE, a fence stands only in PENDING and names a slot of the endpoint's
completion list; the notice queue holds at most 8 notices; and management credits, requests and replies stay in balance at
four: every step keeps each of the three (R111, R115, R120, R125, R157, R166). -/
def Obligations.AttentionNoticeAndManagementLawsKept : Prop :=
  ∀ s t : State, step s = .next t →
    (s.attnLaw → t.attnLaw) ∧ (s.noticeLaw → t.noticeLaw) ∧ (s.managementLaw → t.managementLaw)

/-- All the laws together: every step keeps them, among them that each slot stands in exactly one collection and each block
is free or held by one slot, and that credits equal the free slots and blocks (R43, R50, R157); and no step faults. -/
def Obligations.LawsKeptAndNoFault : Prop :=
  ∀ s : State, s.law → ∃ t : State, step s = .next t ∧ t.law
end

