-- ==== Sys2Proof/Laws/State.lean ====
section
/-! SUPPORT. One lemma per field of State for each update of one record: the field it changes, and every field it leaves.
All are true by rfl, so no later proof unfolds a record update. -/

namespace Sys2Proof.Machine

variable (s : State)

/-! ### setWindow -/

@[simp] theorem State.setWindow_pending (w : WindowId) (x : WindowEntry) : (s.setWindow w x).pending = s.pending := rfl
@[simp] theorem State.setWindow_resetHeld (w : WindowId) (x : WindowEntry) : (s.setWindow w x).resetHeld = s.resetHeld := rfl
@[simp] theorem State.setWindow_windows (w : WindowId) (x : WindowEntry) : (s.setWindow w x).windows = s.windows.set w x := rfl
@[simp] theorem State.setWindow_staging (w : WindowId) (x : WindowEntry) : (s.setWindow w x).staging = s.staging := rfl
@[simp] theorem State.setWindow_endpoints (w : WindowId) (x : WindowEntry) : (s.setWindow w x).endpoints = s.endpoints := rfl
@[simp] theorem State.setWindow_slots (w : WindowId) (x : WindowEntry) : (s.setWindow w x).slots = s.slots := rfl
@[simp] theorem State.setWindow_queues (w : WindowId) (x : WindowEntry) : (s.setWindow w x).queues = s.queues := rfl
@[simp] theorem State.setWindow_completions (w : WindowId) (x : WindowEntry) : (s.setWindow w x).completions = s.completions := rfl
@[simp] theorem State.setWindow_immediate (w : WindowId) (x : WindowEntry) : (s.setWindow w x).immediate = s.immediate := rfl
@[simp] theorem State.setWindow_pool (w : WindowId) (x : WindowEntry) : (s.setWindow w x).pool = s.pool := rfl
@[simp] theorem State.setWindow_freeBlocks (w : WindowId) (x : WindowEntry) : (s.setWindow w x).freeBlocks = s.freeBlocks := rfl
@[simp] theorem State.setWindow_engines (w : WindowId) (x : WindowEntry) : (s.setWindow w x).engines = s.engines := rfl
@[simp] theorem State.setWindow_attn (w : WindowId) (x : WindowEntry) : (s.setWindow w x).attn = s.attn := rfl
@[simp] theorem State.setWindow_lastSample (w : WindowId) (x : WindowEntry) : (s.setWindow w x).lastSample = s.lastSample := rfl
@[simp] theorem State.setWindow_memHanded (w : WindowId) (x : WindowEntry) : (s.setWindow w x).memHanded = s.memHanded := rfl
@[simp] theorem State.setWindow_cfgHanded (w : WindowId) (x : WindowEntry) : (s.setWindow w x).cfgHanded = s.cfgHanded := rfl
@[simp] theorem State.setWindow_replies (w : WindowId) (x : WindowEntry) : (s.setWindow w x).replies = s.replies := rfl
@[simp] theorem State.setWindow_notices (w : WindowId) (x : WindowEntry) : (s.setWindow w x).notices = s.notices := rfl
@[simp] theorem State.setWindow_lastCommand (w : WindowId) (x : WindowEntry) : (s.setWindow w x).lastCommand = s.lastCommand := rfl
@[simp] theorem State.setWindow_transmitter (w : WindowId) (x : WindowEntry) : (s.setWindow w x).transmitter = s.transmitter := rfl
@[simp] theorem State.setWindow_nextCompletion (w : WindowId) (x : WindowEntry) : (s.setWindow w x).nextCompletion = s.nextCompletion := rfl
@[simp] theorem State.setWindow_link (w : WindowId) (x : WindowEntry) : (s.setWindow w x).link = s.link := rfl
@[simp] theorem State.setWindow_credits (w : WindowId) (x : WindowEntry) : (s.setWindow w x).credits = s.credits := rfl

/-! ### setDescriptor -/

@[simp] theorem State.setDescriptor_pending (e : EndpointId) (d : Descriptor) : (s.setDescriptor e d).pending = s.pending := rfl
@[simp] theorem State.setDescriptor_resetHeld (e : EndpointId) (d : Descriptor) : (s.setDescriptor e d).resetHeld = s.resetHeld := rfl
@[simp] theorem State.setDescriptor_windows (e : EndpointId) (d : Descriptor) : (s.setDescriptor e d).windows = s.windows := rfl
@[simp] theorem State.setDescriptor_staging (e : EndpointId) (d : Descriptor) : (s.setDescriptor e d).staging = s.staging := rfl
@[simp] theorem State.setDescriptor_endpoints (e : EndpointId) (d : Descriptor) : (s.setDescriptor e d).endpoints = s.endpoints.set e d := rfl
@[simp] theorem State.setDescriptor_slots (e : EndpointId) (d : Descriptor) : (s.setDescriptor e d).slots = s.slots := rfl
@[simp] theorem State.setDescriptor_queues (e : EndpointId) (d : Descriptor) : (s.setDescriptor e d).queues = s.queues := rfl
@[simp] theorem State.setDescriptor_completions (e : EndpointId) (d : Descriptor) : (s.setDescriptor e d).completions = s.completions := rfl
@[simp] theorem State.setDescriptor_immediate (e : EndpointId) (d : Descriptor) : (s.setDescriptor e d).immediate = s.immediate := rfl
@[simp] theorem State.setDescriptor_pool (e : EndpointId) (d : Descriptor) : (s.setDescriptor e d).pool = s.pool := rfl
@[simp] theorem State.setDescriptor_freeBlocks (e : EndpointId) (d : Descriptor) : (s.setDescriptor e d).freeBlocks = s.freeBlocks := rfl
@[simp] theorem State.setDescriptor_engines (e : EndpointId) (d : Descriptor) : (s.setDescriptor e d).engines = s.engines := rfl
@[simp] theorem State.setDescriptor_attn (e : EndpointId) (d : Descriptor) : (s.setDescriptor e d).attn = s.attn := rfl
@[simp] theorem State.setDescriptor_lastSample (e : EndpointId) (d : Descriptor) : (s.setDescriptor e d).lastSample = s.lastSample := rfl
@[simp] theorem State.setDescriptor_memHanded (e : EndpointId) (d : Descriptor) : (s.setDescriptor e d).memHanded = s.memHanded := rfl
@[simp] theorem State.setDescriptor_cfgHanded (e : EndpointId) (d : Descriptor) : (s.setDescriptor e d).cfgHanded = s.cfgHanded := rfl
@[simp] theorem State.setDescriptor_replies (e : EndpointId) (d : Descriptor) : (s.setDescriptor e d).replies = s.replies := rfl
@[simp] theorem State.setDescriptor_notices (e : EndpointId) (d : Descriptor) : (s.setDescriptor e d).notices = s.notices := rfl
@[simp] theorem State.setDescriptor_lastCommand (e : EndpointId) (d : Descriptor) : (s.setDescriptor e d).lastCommand = s.lastCommand := rfl
@[simp] theorem State.setDescriptor_transmitter (e : EndpointId) (d : Descriptor) : (s.setDescriptor e d).transmitter = s.transmitter := rfl
@[simp] theorem State.setDescriptor_nextCompletion (e : EndpointId) (d : Descriptor) : (s.setDescriptor e d).nextCompletion = s.nextCompletion := rfl
@[simp] theorem State.setDescriptor_link (e : EndpointId) (d : Descriptor) : (s.setDescriptor e d).link = s.link := rfl
@[simp] theorem State.setDescriptor_credits (e : EndpointId) (d : Descriptor) : (s.setDescriptor e d).credits = s.credits := rfl

/-! ### setSlot -/

@[simp] theorem State.setSlot_pending (i : SlotId) (x : Slot) : (s.setSlot i x).pending = s.pending := rfl
@[simp] theorem State.setSlot_resetHeld (i : SlotId) (x : Slot) : (s.setSlot i x).resetHeld = s.resetHeld := rfl
@[simp] theorem State.setSlot_windows (i : SlotId) (x : Slot) : (s.setSlot i x).windows = s.windows := rfl
@[simp] theorem State.setSlot_staging (i : SlotId) (x : Slot) : (s.setSlot i x).staging = s.staging := rfl
@[simp] theorem State.setSlot_endpoints (i : SlotId) (x : Slot) : (s.setSlot i x).endpoints = s.endpoints := rfl
@[simp] theorem State.setSlot_slots (i : SlotId) (x : Slot) : (s.setSlot i x).slots = s.slots.set i x := rfl
@[simp] theorem State.setSlot_queues (i : SlotId) (x : Slot) : (s.setSlot i x).queues = s.queues := rfl
@[simp] theorem State.setSlot_completions (i : SlotId) (x : Slot) : (s.setSlot i x).completions = s.completions := rfl
@[simp] theorem State.setSlot_immediate (i : SlotId) (x : Slot) : (s.setSlot i x).immediate = s.immediate := rfl
@[simp] theorem State.setSlot_pool (i : SlotId) (x : Slot) : (s.setSlot i x).pool = s.pool := rfl
@[simp] theorem State.setSlot_freeBlocks (i : SlotId) (x : Slot) : (s.setSlot i x).freeBlocks = s.freeBlocks := rfl
@[simp] theorem State.setSlot_engines (i : SlotId) (x : Slot) : (s.setSlot i x).engines = s.engines := rfl
@[simp] theorem State.setSlot_attn (i : SlotId) (x : Slot) : (s.setSlot i x).attn = s.attn := rfl
@[simp] theorem State.setSlot_lastSample (i : SlotId) (x : Slot) : (s.setSlot i x).lastSample = s.lastSample := rfl
@[simp] theorem State.setSlot_memHanded (i : SlotId) (x : Slot) : (s.setSlot i x).memHanded = s.memHanded := rfl
@[simp] theorem State.setSlot_cfgHanded (i : SlotId) (x : Slot) : (s.setSlot i x).cfgHanded = s.cfgHanded := rfl
@[simp] theorem State.setSlot_replies (i : SlotId) (x : Slot) : (s.setSlot i x).replies = s.replies := rfl
@[simp] theorem State.setSlot_notices (i : SlotId) (x : Slot) : (s.setSlot i x).notices = s.notices := rfl
@[simp] theorem State.setSlot_lastCommand (i : SlotId) (x : Slot) : (s.setSlot i x).lastCommand = s.lastCommand := rfl
@[simp] theorem State.setSlot_transmitter (i : SlotId) (x : Slot) : (s.setSlot i x).transmitter = s.transmitter := rfl
@[simp] theorem State.setSlot_nextCompletion (i : SlotId) (x : Slot) : (s.setSlot i x).nextCompletion = s.nextCompletion := rfl
@[simp] theorem State.setSlot_link (i : SlotId) (x : Slot) : (s.setSlot i x).link = s.link := rfl
@[simp] theorem State.setSlot_credits (i : SlotId) (x : Slot) : (s.setSlot i x).credits = s.credits := rfl

/-! ### setQueue -/

@[simp] theorem State.setQueue_pending (e : EndpointId) (q : List SlotId) : (s.setQueue e q).pending = s.pending := rfl
@[simp] theorem State.setQueue_resetHeld (e : EndpointId) (q : List SlotId) : (s.setQueue e q).resetHeld = s.resetHeld := rfl
@[simp] theorem State.setQueue_windows (e : EndpointId) (q : List SlotId) : (s.setQueue e q).windows = s.windows := rfl
@[simp] theorem State.setQueue_staging (e : EndpointId) (q : List SlotId) : (s.setQueue e q).staging = s.staging := rfl
@[simp] theorem State.setQueue_endpoints (e : EndpointId) (q : List SlotId) : (s.setQueue e q).endpoints = s.endpoints := rfl
@[simp] theorem State.setQueue_slots (e : EndpointId) (q : List SlotId) : (s.setQueue e q).slots = s.slots := rfl
@[simp] theorem State.setQueue_queues (e : EndpointId) (q : List SlotId) : (s.setQueue e q).queues = s.queues.set e q := rfl
@[simp] theorem State.setQueue_completions (e : EndpointId) (q : List SlotId) : (s.setQueue e q).completions = s.completions := rfl
@[simp] theorem State.setQueue_immediate (e : EndpointId) (q : List SlotId) : (s.setQueue e q).immediate = s.immediate := rfl
@[simp] theorem State.setQueue_pool (e : EndpointId) (q : List SlotId) : (s.setQueue e q).pool = s.pool := rfl
@[simp] theorem State.setQueue_freeBlocks (e : EndpointId) (q : List SlotId) : (s.setQueue e q).freeBlocks = s.freeBlocks := rfl
@[simp] theorem State.setQueue_engines (e : EndpointId) (q : List SlotId) : (s.setQueue e q).engines = s.engines := rfl
@[simp] theorem State.setQueue_attn (e : EndpointId) (q : List SlotId) : (s.setQueue e q).attn = s.attn := rfl
@[simp] theorem State.setQueue_lastSample (e : EndpointId) (q : List SlotId) : (s.setQueue e q).lastSample = s.lastSample := rfl
@[simp] theorem State.setQueue_memHanded (e : EndpointId) (q : List SlotId) : (s.setQueue e q).memHanded = s.memHanded := rfl
@[simp] theorem State.setQueue_cfgHanded (e : EndpointId) (q : List SlotId) : (s.setQueue e q).cfgHanded = s.cfgHanded := rfl
@[simp] theorem State.setQueue_replies (e : EndpointId) (q : List SlotId) : (s.setQueue e q).replies = s.replies := rfl
@[simp] theorem State.setQueue_notices (e : EndpointId) (q : List SlotId) : (s.setQueue e q).notices = s.notices := rfl
@[simp] theorem State.setQueue_lastCommand (e : EndpointId) (q : List SlotId) : (s.setQueue e q).lastCommand = s.lastCommand := rfl
@[simp] theorem State.setQueue_transmitter (e : EndpointId) (q : List SlotId) : (s.setQueue e q).transmitter = s.transmitter := rfl
@[simp] theorem State.setQueue_nextCompletion (e : EndpointId) (q : List SlotId) : (s.setQueue e q).nextCompletion = s.nextCompletion := rfl
@[simp] theorem State.setQueue_link (e : EndpointId) (q : List SlotId) : (s.setQueue e q).link = s.link := rfl
@[simp] theorem State.setQueue_credits (e : EndpointId) (q : List SlotId) : (s.setQueue e q).credits = s.credits := rfl

/-! ### setCompletion -/

@[simp] theorem State.setCompletion_pending (e : EndpointId) (q : List SlotId) : (s.setCompletion e q).pending = s.pending := rfl
@[simp] theorem State.setCompletion_resetHeld (e : EndpointId) (q : List SlotId) : (s.setCompletion e q).resetHeld = s.resetHeld := rfl
@[simp] theorem State.setCompletion_windows (e : EndpointId) (q : List SlotId) : (s.setCompletion e q).windows = s.windows := rfl
@[simp] theorem State.setCompletion_staging (e : EndpointId) (q : List SlotId) : (s.setCompletion e q).staging = s.staging := rfl
@[simp] theorem State.setCompletion_endpoints (e : EndpointId) (q : List SlotId) : (s.setCompletion e q).endpoints = s.endpoints := rfl
@[simp] theorem State.setCompletion_slots (e : EndpointId) (q : List SlotId) : (s.setCompletion e q).slots = s.slots := rfl
@[simp] theorem State.setCompletion_queues (e : EndpointId) (q : List SlotId) : (s.setCompletion e q).queues = s.queues := rfl
@[simp] theorem State.setCompletion_completions (e : EndpointId) (q : List SlotId) : (s.setCompletion e q).completions = s.completions.set e q := rfl
@[simp] theorem State.setCompletion_immediate (e : EndpointId) (q : List SlotId) : (s.setCompletion e q).immediate = s.immediate := rfl
@[simp] theorem State.setCompletion_pool (e : EndpointId) (q : List SlotId) : (s.setCompletion e q).pool = s.pool := rfl
@[simp] theorem State.setCompletion_freeBlocks (e : EndpointId) (q : List SlotId) : (s.setCompletion e q).freeBlocks = s.freeBlocks := rfl
@[simp] theorem State.setCompletion_engines (e : EndpointId) (q : List SlotId) : (s.setCompletion e q).engines = s.engines := rfl
@[simp] theorem State.setCompletion_attn (e : EndpointId) (q : List SlotId) : (s.setCompletion e q).attn = s.attn := rfl
@[simp] theorem State.setCompletion_lastSample (e : EndpointId) (q : List SlotId) : (s.setCompletion e q).lastSample = s.lastSample := rfl
@[simp] theorem State.setCompletion_memHanded (e : EndpointId) (q : List SlotId) : (s.setCompletion e q).memHanded = s.memHanded := rfl
@[simp] theorem State.setCompletion_cfgHanded (e : EndpointId) (q : List SlotId) : (s.setCompletion e q).cfgHanded = s.cfgHanded := rfl
@[simp] theorem State.setCompletion_replies (e : EndpointId) (q : List SlotId) : (s.setCompletion e q).replies = s.replies := rfl
@[simp] theorem State.setCompletion_notices (e : EndpointId) (q : List SlotId) : (s.setCompletion e q).notices = s.notices := rfl
@[simp] theorem State.setCompletion_lastCommand (e : EndpointId) (q : List SlotId) : (s.setCompletion e q).lastCommand = s.lastCommand := rfl
@[simp] theorem State.setCompletion_transmitter (e : EndpointId) (q : List SlotId) : (s.setCompletion e q).transmitter = s.transmitter := rfl
@[simp] theorem State.setCompletion_nextCompletion (e : EndpointId) (q : List SlotId) : (s.setCompletion e q).nextCompletion = s.nextCompletion := rfl
@[simp] theorem State.setCompletion_link (e : EndpointId) (q : List SlotId) : (s.setCompletion e q).link = s.link := rfl
@[simp] theorem State.setCompletion_credits (e : EndpointId) (q : List SlotId) : (s.setCompletion e q).credits = s.credits := rfl

/-! ### setEngine -/

@[simp] theorem State.setEngine_pending (l : LaneId) (g : Engine) : (s.setEngine l g).pending = s.pending := rfl
@[simp] theorem State.setEngine_resetHeld (l : LaneId) (g : Engine) : (s.setEngine l g).resetHeld = s.resetHeld := rfl
@[simp] theorem State.setEngine_windows (l : LaneId) (g : Engine) : (s.setEngine l g).windows = s.windows := rfl
@[simp] theorem State.setEngine_staging (l : LaneId) (g : Engine) : (s.setEngine l g).staging = s.staging := rfl
@[simp] theorem State.setEngine_endpoints (l : LaneId) (g : Engine) : (s.setEngine l g).endpoints = s.endpoints := rfl
@[simp] theorem State.setEngine_slots (l : LaneId) (g : Engine) : (s.setEngine l g).slots = s.slots := rfl
@[simp] theorem State.setEngine_queues (l : LaneId) (g : Engine) : (s.setEngine l g).queues = s.queues := rfl
@[simp] theorem State.setEngine_completions (l : LaneId) (g : Engine) : (s.setEngine l g).completions = s.completions := rfl
@[simp] theorem State.setEngine_immediate (l : LaneId) (g : Engine) : (s.setEngine l g).immediate = s.immediate := rfl
@[simp] theorem State.setEngine_pool (l : LaneId) (g : Engine) : (s.setEngine l g).pool = s.pool := rfl
@[simp] theorem State.setEngine_freeBlocks (l : LaneId) (g : Engine) : (s.setEngine l g).freeBlocks = s.freeBlocks := rfl
@[simp] theorem State.setEngine_engines (l : LaneId) (g : Engine) : (s.setEngine l g).engines = s.engines.set l g := rfl
@[simp] theorem State.setEngine_attn (l : LaneId) (g : Engine) : (s.setEngine l g).attn = s.attn := rfl
@[simp] theorem State.setEngine_lastSample (l : LaneId) (g : Engine) : (s.setEngine l g).lastSample = s.lastSample := rfl
@[simp] theorem State.setEngine_memHanded (l : LaneId) (g : Engine) : (s.setEngine l g).memHanded = s.memHanded := rfl
@[simp] theorem State.setEngine_cfgHanded (l : LaneId) (g : Engine) : (s.setEngine l g).cfgHanded = s.cfgHanded := rfl
@[simp] theorem State.setEngine_replies (l : LaneId) (g : Engine) : (s.setEngine l g).replies = s.replies := rfl
@[simp] theorem State.setEngine_notices (l : LaneId) (g : Engine) : (s.setEngine l g).notices = s.notices := rfl
@[simp] theorem State.setEngine_lastCommand (l : LaneId) (g : Engine) : (s.setEngine l g).lastCommand = s.lastCommand := rfl
@[simp] theorem State.setEngine_transmitter (l : LaneId) (g : Engine) : (s.setEngine l g).transmitter = s.transmitter := rfl
@[simp] theorem State.setEngine_nextCompletion (l : LaneId) (g : Engine) : (s.setEngine l g).nextCompletion = s.nextCompletion := rfl
@[simp] theorem State.setEngine_link (l : LaneId) (g : Engine) : (s.setEngine l g).link = s.link := rfl
@[simp] theorem State.setEngine_credits (l : LaneId) (g : Engine) : (s.setEngine l g).credits = s.credits := rfl

/-! ### setAttn -/

@[simp] theorem State.setAttn_pending (e : EndpointId) (r : AttnRecord) : (s.setAttn e r).pending = s.pending := rfl
@[simp] theorem State.setAttn_resetHeld (e : EndpointId) (r : AttnRecord) : (s.setAttn e r).resetHeld = s.resetHeld := rfl
@[simp] theorem State.setAttn_windows (e : EndpointId) (r : AttnRecord) : (s.setAttn e r).windows = s.windows := rfl
@[simp] theorem State.setAttn_staging (e : EndpointId) (r : AttnRecord) : (s.setAttn e r).staging = s.staging := rfl
@[simp] theorem State.setAttn_endpoints (e : EndpointId) (r : AttnRecord) : (s.setAttn e r).endpoints = s.endpoints := rfl
@[simp] theorem State.setAttn_slots (e : EndpointId) (r : AttnRecord) : (s.setAttn e r).slots = s.slots := rfl
@[simp] theorem State.setAttn_queues (e : EndpointId) (r : AttnRecord) : (s.setAttn e r).queues = s.queues := rfl
@[simp] theorem State.setAttn_completions (e : EndpointId) (r : AttnRecord) : (s.setAttn e r).completions = s.completions := rfl
@[simp] theorem State.setAttn_immediate (e : EndpointId) (r : AttnRecord) : (s.setAttn e r).immediate = s.immediate := rfl
@[simp] theorem State.setAttn_pool (e : EndpointId) (r : AttnRecord) : (s.setAttn e r).pool = s.pool := rfl
@[simp] theorem State.setAttn_freeBlocks (e : EndpointId) (r : AttnRecord) : (s.setAttn e r).freeBlocks = s.freeBlocks := rfl
@[simp] theorem State.setAttn_engines (e : EndpointId) (r : AttnRecord) : (s.setAttn e r).engines = s.engines := rfl
@[simp] theorem State.setAttn_attn (e : EndpointId) (r : AttnRecord) : (s.setAttn e r).attn = s.attn.set e r := rfl
@[simp] theorem State.setAttn_lastSample (e : EndpointId) (r : AttnRecord) : (s.setAttn e r).lastSample = s.lastSample := rfl
@[simp] theorem State.setAttn_memHanded (e : EndpointId) (r : AttnRecord) : (s.setAttn e r).memHanded = s.memHanded := rfl
@[simp] theorem State.setAttn_cfgHanded (e : EndpointId) (r : AttnRecord) : (s.setAttn e r).cfgHanded = s.cfgHanded := rfl
@[simp] theorem State.setAttn_replies (e : EndpointId) (r : AttnRecord) : (s.setAttn e r).replies = s.replies := rfl
@[simp] theorem State.setAttn_notices (e : EndpointId) (r : AttnRecord) : (s.setAttn e r).notices = s.notices := rfl
@[simp] theorem State.setAttn_lastCommand (e : EndpointId) (r : AttnRecord) : (s.setAttn e r).lastCommand = s.lastCommand := rfl
@[simp] theorem State.setAttn_transmitter (e : EndpointId) (r : AttnRecord) : (s.setAttn e r).transmitter = s.transmitter := rfl
@[simp] theorem State.setAttn_nextCompletion (e : EndpointId) (r : AttnRecord) : (s.setAttn e r).nextCompletion = s.nextCompletion := rfl
@[simp] theorem State.setAttn_link (e : EndpointId) (r : AttnRecord) : (s.setAttn e r).link = s.link := rfl
@[simp] theorem State.setAttn_credits (e : EndpointId) (r : AttnRecord) : (s.setAttn e r).credits = s.credits := rfl

/-! ### setLink -/

@[simp] theorem State.setLink_pending (k : LinkPort) : (s.setLink k).pending = s.pending := rfl
@[simp] theorem State.setLink_resetHeld (k : LinkPort) : (s.setLink k).resetHeld = s.resetHeld := rfl
@[simp] theorem State.setLink_windows (k : LinkPort) : (s.setLink k).windows = s.windows := rfl
@[simp] theorem State.setLink_staging (k : LinkPort) : (s.setLink k).staging = s.staging := rfl
@[simp] theorem State.setLink_endpoints (k : LinkPort) : (s.setLink k).endpoints = s.endpoints := rfl
@[simp] theorem State.setLink_slots (k : LinkPort) : (s.setLink k).slots = s.slots := rfl
@[simp] theorem State.setLink_queues (k : LinkPort) : (s.setLink k).queues = s.queues := rfl
@[simp] theorem State.setLink_completions (k : LinkPort) : (s.setLink k).completions = s.completions := rfl
@[simp] theorem State.setLink_immediate (k : LinkPort) : (s.setLink k).immediate = s.immediate := rfl
@[simp] theorem State.setLink_pool (k : LinkPort) : (s.setLink k).pool = s.pool := rfl
@[simp] theorem State.setLink_freeBlocks (k : LinkPort) : (s.setLink k).freeBlocks = s.freeBlocks := rfl
@[simp] theorem State.setLink_engines (k : LinkPort) : (s.setLink k).engines = s.engines := rfl
@[simp] theorem State.setLink_attn (k : LinkPort) : (s.setLink k).attn = s.attn := rfl
@[simp] theorem State.setLink_lastSample (k : LinkPort) : (s.setLink k).lastSample = s.lastSample := rfl
@[simp] theorem State.setLink_memHanded (k : LinkPort) : (s.setLink k).memHanded = s.memHanded := rfl
@[simp] theorem State.setLink_cfgHanded (k : LinkPort) : (s.setLink k).cfgHanded = s.cfgHanded := rfl
@[simp] theorem State.setLink_replies (k : LinkPort) : (s.setLink k).replies = s.replies := rfl
@[simp] theorem State.setLink_notices (k : LinkPort) : (s.setLink k).notices = s.notices := rfl
@[simp] theorem State.setLink_lastCommand (k : LinkPort) : (s.setLink k).lastCommand = s.lastCommand := rfl
@[simp] theorem State.setLink_transmitter (k : LinkPort) : (s.setLink k).transmitter = s.transmitter := rfl
@[simp] theorem State.setLink_nextCompletion (k : LinkPort) : (s.setLink k).nextCompletion = s.nextCompletion := rfl
@[simp] theorem State.setLink_link (k : LinkPort) : (s.setLink k).link = k := rfl
@[simp] theorem State.setLink_credits (k : LinkPort) : (s.setLink k).credits = s.credits := rfl

/-! ### transmit -/

@[simp] theorem State.transmit_pending (p : OutPacket) : (s.transmit p).pending = s.pending := rfl
@[simp] theorem State.transmit_resetHeld (p : OutPacket) : (s.transmit p).resetHeld = s.resetHeld := rfl
@[simp] theorem State.transmit_windows (p : OutPacket) : (s.transmit p).windows = s.windows := rfl
@[simp] theorem State.transmit_staging (p : OutPacket) : (s.transmit p).staging = s.staging := rfl
@[simp] theorem State.transmit_endpoints (p : OutPacket) : (s.transmit p).endpoints = s.endpoints := rfl
@[simp] theorem State.transmit_slots (p : OutPacket) : (s.transmit p).slots = s.slots := rfl
@[simp] theorem State.transmit_queues (p : OutPacket) : (s.transmit p).queues = s.queues := rfl
@[simp] theorem State.transmit_completions (p : OutPacket) : (s.transmit p).completions = s.completions := rfl
@[simp] theorem State.transmit_immediate (p : OutPacket) : (s.transmit p).immediate = s.immediate := rfl
@[simp] theorem State.transmit_pool (p : OutPacket) : (s.transmit p).pool = s.pool := rfl
@[simp] theorem State.transmit_freeBlocks (p : OutPacket) : (s.transmit p).freeBlocks = s.freeBlocks := rfl
@[simp] theorem State.transmit_engines (p : OutPacket) : (s.transmit p).engines = s.engines := rfl
@[simp] theorem State.transmit_attn (p : OutPacket) : (s.transmit p).attn = s.attn := rfl
@[simp] theorem State.transmit_lastSample (p : OutPacket) : (s.transmit p).lastSample = s.lastSample := rfl
@[simp] theorem State.transmit_memHanded (p : OutPacket) : (s.transmit p).memHanded = s.memHanded := rfl
@[simp] theorem State.transmit_cfgHanded (p : OutPacket) : (s.transmit p).cfgHanded = s.cfgHanded := rfl
@[simp] theorem State.transmit_replies (p : OutPacket) : (s.transmit p).replies = s.replies := rfl
@[simp] theorem State.transmit_notices (p : OutPacket) : (s.transmit p).notices = s.notices := rfl
@[simp] theorem State.transmit_lastCommand (p : OutPacket) : (s.transmit p).lastCommand = s.lastCommand := rfl
@[simp] theorem State.transmit_transmitter (p : OutPacket) : (s.transmit p).transmitter = .sending p := rfl
@[simp] theorem State.transmit_nextCompletion (p : OutPacket) : (s.transmit p).nextCompletion = s.nextCompletion := rfl
@[simp] theorem State.transmit_link (p : OutPacket) : (s.transmit p).link = s.link := rfl
@[simp] theorem State.transmit_credits (p : OutPacket) : (s.transmit p).credits = s.credits := rfl

/-! ### addReply -/

@[simp] theorem State.addReply_pending (r : CfgReply) : (s.addReply r).pending = s.pending := rfl
@[simp] theorem State.addReply_resetHeld (r : CfgReply) : (s.addReply r).resetHeld = s.resetHeld := rfl
@[simp] theorem State.addReply_windows (r : CfgReply) : (s.addReply r).windows = s.windows := rfl
@[simp] theorem State.addReply_staging (r : CfgReply) : (s.addReply r).staging = s.staging := rfl
@[simp] theorem State.addReply_endpoints (r : CfgReply) : (s.addReply r).endpoints = s.endpoints := rfl
@[simp] theorem State.addReply_slots (r : CfgReply) : (s.addReply r).slots = s.slots := rfl
@[simp] theorem State.addReply_queues (r : CfgReply) : (s.addReply r).queues = s.queues := rfl
@[simp] theorem State.addReply_completions (r : CfgReply) : (s.addReply r).completions = s.completions := rfl
@[simp] theorem State.addReply_immediate (r : CfgReply) : (s.addReply r).immediate = s.immediate := rfl
@[simp] theorem State.addReply_pool (r : CfgReply) : (s.addReply r).pool = s.pool := rfl
@[simp] theorem State.addReply_freeBlocks (r : CfgReply) : (s.addReply r).freeBlocks = s.freeBlocks := rfl
@[simp] theorem State.addReply_engines (r : CfgReply) : (s.addReply r).engines = s.engines := rfl
@[simp] theorem State.addReply_attn (r : CfgReply) : (s.addReply r).attn = s.attn := rfl
@[simp] theorem State.addReply_lastSample (r : CfgReply) : (s.addReply r).lastSample = s.lastSample := rfl
@[simp] theorem State.addReply_memHanded (r : CfgReply) : (s.addReply r).memHanded = s.memHanded := rfl
@[simp] theorem State.addReply_cfgHanded (r : CfgReply) : (s.addReply r).cfgHanded = s.cfgHanded := rfl
@[simp] theorem State.addReply_replies (r : CfgReply) : (s.addReply r).replies = s.replies ++ [r] := rfl
@[simp] theorem State.addReply_notices (r : CfgReply) : (s.addReply r).notices = s.notices := rfl
@[simp] theorem State.addReply_lastCommand (r : CfgReply) : (s.addReply r).lastCommand = s.lastCommand := rfl
@[simp] theorem State.addReply_transmitter (r : CfgReply) : (s.addReply r).transmitter = s.transmitter := rfl
@[simp] theorem State.addReply_nextCompletion (r : CfgReply) : (s.addReply r).nextCompletion = s.nextCompletion := rfl
@[simp] theorem State.addReply_link (r : CfgReply) : (s.addReply r).link = s.link := rfl
@[simp] theorem State.addReply_credits (r : CfgReply) : (s.addReply r).credits = s.credits := rfl

/-! ### Reading a table after one place of it is set -/

/-- Reading a table at the place just set. -/
@[simp] theorem get_set_same {α : Type} {n : Nat} (v : Vector α n) (i : Fin n) (x : α) : (v.set i x)[i] = x := by
  simp

/-- Reading a table at another place than the one set. -/
theorem get_set_other {α : Type} {n : Nat} (v : Vector α n) (i j : Fin n) (x : α) (h : i ≠ j) :
    (v.set i x)[j] = v[j] := by
  simp only [Fin.getElem_fin]
  exact Vector.getElem_set_ne _ _ (fun c => h (Fin.ext c))

/-- Reading a table after a set: the place set, or another. -/
theorem get_set {α : Type} {n : Nat} (v : Vector α n) (i j : Fin n) (x : α) :
    (v.set i x)[j] = if i = j then x else v[j] := by
  split
  · next h => subst h; simp
  · next h => exact get_set_other v i j x h

end Sys2Proof.Machine
end

