-- ==== Sys2Proof/Laws/Ops.lean ====
section
/-! SUPPORT. What each shared operation can do, said once: an inversion lemma for each form in which commands are taken,
and for each operation of Machine/Ops.lean the fields it may change and what it makes of them. -/

namespace Sys2Proof.Machine

/-! ### The forms in which commands are taken -/

/-- Outside reset a command is its own meaning. -/
@[simp] theorem unlessHeld_of_high {s : State} (h : s.resetHeld = false) (r : Result) : unlessHeld s r = r := by
  simp [unlessHeld, h]

/-- While RESET_N is low a command leaves the state as it is (R171). -/
@[simp] theorem unlessHeld_of_low {s : State} (h : s.resetHeld = true) (r : Result) : unlessHeld s r = .next s := by
  simp [unlessHeld, h]

/-- All that a command under `unlessHeld` can do. -/
theorem unlessHeld_cases {s : State} {r x : Result} (h : unlessHeld s r = x) :
    (s.resetHeld = true ∧ x = .next s) ∨ (s.resetHeld = false ∧ x = r) := by
  cases hs : s.resetHeld <;> simp [hs] at h <;> simp [h]

/-- All that taking a CFG request can do: nothing, when no request that `p` names stands first; otherwise the request is
taken and acted on, and its reply joins the reply list (R162). -/
theorem takeCfg_cases {s t : State} {p : CfgRequest → Bool} {act : CfgRequest → State → CfgReply × State}
    (h : takeCfg s p act = .next t) :
    t = s ∨ ∃ (r : CfgRequest) (rest : List CfgRequest), s.cfgHanded = r :: rest ∧ p r = true ∧
      s.replies.length < Config.replyPlaces ∧
      t = (act r { s with cfgHanded := rest }).2.addReply (act r { s with cfgHanded := rest }).1 := by
  unfold takeCfg at h
  split at h
  · simp only [Host.Outcome.next.injEq] at h; exact .inl h.symm
  · next r rest hr =>
    split at h
    · next hp =>
      split at h
      · next hl =>
        simp only [Host.Outcome.next.injEq] at h
        exact .inr ⟨r, rest, hr, hp, by simpa [State.replyPlace] using hl, h.symm⟩
      · simp at h
    · simp only [Host.Outcome.next.injEq] at h; exact .inl h.symm

/-- Taking a CFG request that stands first, with a place for its reply (R162). -/
theorem takeCfg_of_taken {s : State} {p : CfgRequest → Bool} {act : CfgRequest → State → CfgReply × State}
    {r : CfgRequest} {rest : List CfgRequest} (hr : s.cfgHanded = r :: rest) (hp : p r = true)
    (hl : s.replies.length < Config.replyPlaces) :
    takeCfg s p act =
      .next ((act r { s with cfgHanded := rest }).2.addReply (act r { s with cfgHanded := rest }).1) := by
  simp [takeCfg, hr, hp, State.replyPlace, hl]

/-- A command from class NORMAL is refused with DENIED and changes nothing (R164). -/
theorem commandAct_of_normal {perform : Byte → State → CfgStatus × State} {r : CfgRequest} {s : State}
    (h : r.cls = .normal) : commandAct perform r s = (plainReply r .denied 0, s) := by
  simp [commandAct, h]

/-- A command from class PRIVILEGED is performed and recorded (R168). -/
theorem commandAct_of_privileged {perform : Byte → State → CfgStatus × State} {r : CfgRequest} {s : State}
    (h : r.cls = .privileged) :
    commandAct perform r s = (plainReply r (perform r.commandIndex s).1 0,
      { (perform r.commandIndex s).2 with
        lastCommand := ⟨r.commandCode, r.commandIndex, (perform r.commandIndex s).1⟩ }) := by
  simp [commandAct, h]

/-- All that taking a MEM request can do (R52). -/
theorem takeMem_cases {d : Direction} {s t : State} (h : takeMem d s = .next t) :
    t = s ∨ ∃ (m : MemRequest) (rest : List MemRequest), s.memHanded = m :: rest ∧ m.direction = d ∧
      takeRequest m { s with memHanded := rest } = .next t := by
  unfold takeMem at h
  split at h
  · simp only [Host.Outcome.next.injEq] at h; exact .inl h.symm
  · next m rest hm =>
    split at h
    · next hd => exact .inr ⟨m, rest, hm, hd, h⟩
    · simp only [Host.Outcome.next.injEq] at h; exact .inl h.symm

/-- All that a taken MEM request can do: acceptance, or a refusal, into the lowest free slot (R44, R53). -/
theorem takeRequest_cases {m : MemRequest} {s t : State} (h : takeRequest m s = .next t) :
    ∃ i : SlotId, s.lowestFreeSlot = some i ∧
      ((∃ w, s.check m = .accepted w ∧ accept m w i s = .next t) ∨
        ∃ status matched, s.check m = .refused status matched ∧ t = refuse m status matched i s) := by
  unfold takeRequest at h
  split at h
  · simp at h
  · next i hi =>
    refine ⟨i, hi, ?_⟩
    split at h
    · next w hw => exact .inl ⟨w, hw, h⟩
    · next status matched hr =>
      simp only [Host.Outcome.next.injEq] at h
      exact .inr ⟨status, matched, hr, h.symm⟩

/-- A choice is made only while the transmitter is FREE (R103). -/
theorem transmitter_of_choice {s : State} {c : Candidate} (h : s.choice = some c) : s.transmitter = .free := by
  unfold State.choice at h
  split at h
  · simp at h
  · assumption

/-- All that a packet command can do: nothing, or send the packet that is the arbiter's choice (R103). -/
theorem onChoice_cases {s t : State} {act : Candidate → Option State} (h : onChoice s act = .next t) :
    t = s ∨ ∃ c : Candidate, s.resetHeld = false ∧ s.transmitter = .free ∧ s.choice = some c ∧ act c = some t := by
  rcases unlessHeld_cases h with ⟨-, hx⟩ | ⟨hs, hx⟩
  · simp only [Host.Outcome.next.injEq] at hx; exact .inl hx
  · split at hx
    · simp only [Host.Outcome.next.injEq] at hx; exact .inl hx
    · next c hc =>
      split at hx
      · simp only [Host.Outcome.next.injEq] at hx; exact .inl hx
      · next u hu =>
        simp only [Host.Outcome.next.injEq] at hx
        exact .inr ⟨c, hs, transmitter_of_choice hc, hc, by rw [hu, hx]⟩

/-- Sending the packet chosen. -/
theorem onChoice_of_chosen {s t : State} {act : Candidate → Option State} {c : Candidate} (hs : s.resetHeld = false)
    (hc : s.choice = some c) (ha : act c = some t) : onChoice s act = .next t := by
  simp [onChoice, hs, hc, ha]

/-! ### Credits and notices -/

/-- A changed total touches nothing but the due ACK (R138). -/
theorem noteTotals_frame (s : State) :
    s.noteTotals = { s with link := { s.link with due := { s.link.due with ack := s.noteTotals.link.due.ack } } } := by
  unfold State.noteTotals
  split <;> rfl

/-- A grant changes the credits and nothing else but the due ACK (R155). -/
theorem grantCredits_frame (s : State) (a b c : Nat) :
    s.grantCredits a b c = { s with
      credits := (s.grantCredits a b c).credits
      link := { s.link with due := { s.link.due with ack := (s.grantCredits a b c).link.due.ack } } } := by
  unfold State.grantCredits
  rw [noteTotals_frame]

/-- The credits after a grant (R155). -/
@[simp] theorem grantCredits_credits (s : State) (a b c : Nat) :
    (s.grantCredits a b c).credits = ⟨s.credits.request.grant a, s.credits.data.grant b, s.credits.management.grant c⟩ := by
  unfold State.grantCredits
  rw [noteTotals_frame]

/-- Creating a notice changes the notice queue alone (R113). -/
theorem addNotice_frame (s : State) (n : Notice) : s.addNotice n = { s with notices := (s.addNotice n).notices } := by
  unfold State.addNotice
  split <;> rfl

/-- Marking the newest notice keeps the number of notices. -/
@[simp] theorem markMore_length (l : List Notice) : (markMore l).length = l.length := by
  induction l using markMore.induct with
  | case1 => rfl
  | case2 n => rfl
  | case3 n t h ih => simp [markMore, ih]

/-- The notice queue's length after a creation: one more while below 8, and otherwise the same (R111, R113). -/
theorem addNotice_length (s : State) (n : Notice) :
    (s.addNotice n).notices.length =
      if s.notices.length < Config.noticePlaces then s.notices.length + 1 else s.notices.length := by
  unfold State.addNotice
  split <;> simp

/-! ### Blocks and slots -/

/-- The blocks after one returns (R50). -/
@[simp] theorem mem_insertBlock (b c : BlockId) (l : List BlockId) : c ∈ insertBlock b l ↔ c = b ∨ c ∈ l := by
  induction l with
  | nil => simp [insertBlock]
  | cons d t ih =>
    simp only [insertBlock]
    split
    · simp
    · split
      · next h => subst h; simp
      · simp only [List.mem_cons, ih]; tauto

/-- Returning a block keeps the free set in rising order (R50). -/
theorem insertBlock_rising (b : BlockId) {l : List BlockId} (h : l.Pairwise (· < ·)) :
    (insertBlock b l).Pairwise (· < ·) := by
  induction l with
  | nil => simp [insertBlock]
  | cons d t ih =>
    obtain ⟨hd, ht⟩ := List.pairwise_cons.mp h
    simp only [insertBlock]
    split
    · next hb => exact List.pairwise_cons.mpr ⟨fun x hx => by
        rcases List.mem_cons.mp hx with rfl | hx
        · exact hb
        · exact lt_trans hb (hd x hx), h⟩
    · split
      · exact h
      · next h1 h2 =>
        refine List.pairwise_cons.mpr ⟨fun x hx => ?_, ih ht⟩
        rcases (mem_insertBlock b x t).mp hx with rfl | hx
        · exact lt_of_le_of_ne (not_lt.mp h1) (Ne.symm h2)
        · exact hd x hx

/-- Freeing a slot changes the Slot Table and the free set alone (R42). -/
theorem freeSlot_frame (s : State) (i : SlotId) :
    s.freeSlot i = { s with slots := s.slots.set i s.slots[i].freed, freeBlocks := (s.freeSlot i).freeBlocks } := rfl

/-- The end of a request changes its slot and lists, the free set, the notices, the credits and the due ACK, and nothing
else (R60, R61). -/
theorem endSlot_frame (s : State) (e : EndpointId) (i : SlotId) (status : MemStatus) :
    s.endSlot e i status = { s with
      slots := (s.endSlot e i status).slots
      queues := s.queues.set e (s.queues[e].erase i)
      completions := (s.endSlot e i status).completions
      freeBlocks := (s.endSlot e i status).freeBlocks
      notices := (s.endSlot e i status).notices
      credits := (s.endSlot e i status).credits
      link := { s.link with due := { s.link.due with ack := (s.endSlot e i status).link.due.ack } } } := by
  unfold State.endSlot
  simp only
  split
  · split
    · rw [grantCredits_frame]; rfl
    · rw [addNotice_frame, grantCredits_frame]; rfl
  · rfl

/-- What every end of a slot keeps, the ending of a whole queue keeps. -/
theorem abortQueue_keeps {P : State → Prop} {e : EndpointId}
    (h : ∀ (t : State) (i : SlotId), P t → P (t.endSlot e i .aborted)) (s : State) (hs : P s) : P (s.abortQueue e) := by
  unfold State.abortQueue
  generalize s.queues[e] = q
  induction q generalizing s with
  | nil => exact hs
  | cons i t ih => exact ih _ (h s i hs)

/-- The ending of a whole queue touches what the end of one slot touches, and nothing else (R29, R30, R36). -/
theorem abortQueue_frame (s : State) (e : EndpointId) :
    s.abortQueue e = { s with
      slots := (s.abortQueue e).slots
      queues := (s.abortQueue e).queues
      completions := (s.abortQueue e).completions
      freeBlocks := (s.abortQueue e).freeBlocks
      notices := (s.abortQueue e).notices
      credits := (s.abortQueue e).credits
      link := { s.link with due := { s.link.due with ack := (s.abortQueue e).link.due.ack } } } := by
  refine abortQueue_keeps (P := fun t => t = { s with
    slots := t.slots
    queues := t.queues
    completions := t.completions
    freeBlocks := t.freeBlocks
    notices := t.notices
    credits := t.credits
    link := { s.link with due := { s.link.due with ack := t.link.due.ack } } }) (fun t i ht => ?_) s rfl
  rw [endSlot_frame, ht]

/-! ### Endpoints and attentions -/

/-- A DRAINING endpoint whose queue is empty becomes DISABLED; otherwise nothing happens (R34). -/
theorem drainIfEmpty_cases (s : State) (e : EndpointId) :
    (s.endpoints[e].state = .draining ∧ s.queues[e] = [] ∧ s.drainIfEmpty e = s.enterDisabled e) ∨
      (¬ (s.endpoints[e].state = .draining ∧ s.queues[e] = []) ∧ s.drainIfEmpty e = s) := by
  unfold State.drainIfEmpty
  split
  · next h => exact .inl ⟨h.1, h.2, rfl⟩
  · next h => exact .inr ⟨h, rfl⟩

/-- Judging a level takes an attention or does nothing (R118). -/
theorem judgeLevel_cases (s : State) (e : EndpointId) :
    (s.endpoints[e].state ≠ .disabled ∧ s.attn[e].state = .idle ∧ s.levelHolds e = true ∧
        s.judgeLevel e = s.setAttn e (s.takenRecord e)) ∨ s.judgeLevel e = s := by
  unfold State.judgeLevel
  split
  · next h => exact .inl ⟨h.1, h.2.1, h.2.2, rfl⟩
  · exact .inr rfl

/-- A record after the fences of a slot are cleared (R120). -/
@[simp] theorem clearFences_attn (s : State) (i : SlotId) (e : EndpointId) :
    (s.clearFences i).attn[e] =
      if s.attn[e].state = .pending ∧ s.attn[e].fence = some i then { s.attn[e] with fence := none } else s.attn[e] := by
  simp only [State.clearFences, tabulate_get]

/-! ### Resets and replays -/

/-- A slot through a link reset (R63). -/
@[simp] theorem linkReset_slots (s : State) (i : SlotId) : s.linkReset.slots[i] = s.slots[i].freed := by
  simp only [State.linkReset, tabulate_get]

/-- An engine through a link reset (R80). -/
@[simp] theorem linkReset_engines (s : State) (l : LaneId) :
    s.linkReset.engines[l] = s.engines[l].cutByLinkReset (s.gapBitsOf s.engines[l]) := by
  simp only [State.linkReset, tabulate_get]

/-- A queue through a link reset (R63). -/
@[simp] theorem linkReset_queues (s : State) (e : EndpointId) : s.linkReset.queues[e] = [] := by
  simp [State.linkReset]

/-- A completion list through a link reset (R63). -/
@[simp] theorem linkReset_completions (s : State) (e : EndpointId) : s.linkReset.completions[e] = [] := by
  simp [State.linkReset]

/-- An attention record through a link reset (R126). -/
@[simp] theorem linkReset_attn (s : State) (e : EndpointId) :
    s.linkReset.attn[e] = s.attn[e].linkReset s.linkReset.endpoints[e] := by
  simp only [State.linkReset, tabulate_get]

/-- A replay starts, or at a replayCount of 4 the link fails (R145). -/
theorem startReplay_cases (s : State) :
    (s.link.replayCount < Config.maxReplays ∧ s.startReplay = s.setLink s.link.replayStarted) ∨
      (Config.maxReplays ≤ s.link.replayCount ∧ s.startReplay = s.linkReset.setLink s.linkReset.link.failed) := by
  unfold State.startReplay
  split
  · next h => exact .inr ⟨h, rfl⟩
  · next h => exact .inl ⟨not_le.mp h, rfl⟩

/-! ### Beats (R7, R51) -/

/-- A beat whose place in the block list is block `b`. -/
theorem readBeat_of_block {bl : List BlockId} {k : Nat} {b : BlockId} (hb : bl[k / 8]? = some b) (pool : Pool) :
    readBeat bl k pool = pool[b][beatPlace k] := by
  simp only [readBeat, hb]

/-- Writing a beat whose place in the block list is block `b`. -/
theorem writeBeat_of_block {bl : List BlockId} {k : Nat} {b : BlockId} (hb : bl[k / 8]? = some b) (w : Word)
    (pool : Pool) : writeBeat bl k w pool = pool.set b (pool[b].set (beatPlace k) w) := by
  simp only [writeBeat, hb]

/-- Reading back the beat just written. -/
theorem readBeat_writeBeat_same {bl : List BlockId} {k : Nat} (w : Word) (pool : Pool) (h : k / 8 < bl.length) :
    readBeat bl k (writeBeat bl k w pool) = w := by
  have hb : bl[k / 8]? = some bl[k / 8] := List.getElem?_eq_getElem h
  rw [readBeat_of_block hb, writeBeat_of_block hb]
  simp

/-- Reading another beat than the one written, where no block stands twice in the list. -/
theorem readBeat_writeBeat_other {bl : List BlockId} {j k : Nat} (w : Word) (pool : Pool) (hn : bl.Nodup)
    (hj : j / 8 < bl.length) (h : j ≠ k) : readBeat bl j (writeBeat bl k w pool) = readBeat bl j pool := by
  rcases hc : bl[k / 8]? with _ | c
  · simp [writeBeat, hc]
  · rcases hb : bl[j / 8]? with _ | b
    · simp [readBeat, hb]
    · rw [readBeat_of_block hb, readBeat_of_block hb, writeBeat_of_block hc]
      by_cases hq : c = b
      · subst hq
        have hd : j / 8 = k / 8 := (List.getElem?_inj hj hn).mp (hb.trans hc.symm)
        have hp : beatPlace k ≠ beatPlace j := by
          intro hp
          have : k % 8 = j % 8 := congrArg Fin.val hp
          omega
        rw [get_set_same, get_set_other _ _ _ _ hp]
      · rw [get_set_other _ _ _ _ hq]

/-- A write to a beat leaves every block outside the list. -/
theorem writeBeat_other_block {bl : List BlockId} {k : Nat} (w : Word) (pool : Pool) {b : BlockId} (hb : b ∉ bl) :
    (writeBeat bl k w pool)[b] = pool[b] := by
  unfold writeBeat
  split
  · next c hc => exact get_set_other _ _ _ _ (fun h => hb (h ▸ List.mem_of_getElem? hc))
  · rfl

/-- Writing beats leaves every block outside the list. -/
theorem writeBeats_other_block {bl : List BlockId} (ws : List Word) (k : Nat) (pool : Pool) {b : BlockId} (hb : b ∉ bl) :
    (writeBeats bl k ws pool)[b] = pool[b] := by
  induction ws generalizing k pool with
  | nil => rfl
  | cons w ws ih => rw [writeBeats, ih, writeBeat_other_block w pool hb]

/-! ### Parts and units of a transaction (R73, R80) -/

/-- TRAIL at its start (R73). -/
@[simp] theorem enterTrail_eq (g : Engine) :
    g.enterTrail = { g with phase := some .trail, unitCount := 0, between := false, unitOut := [] } := rfl

/-- A part shifted in units, at its start: its first unit is still to begin (R73, R80). -/
theorem enterPart_of_units (g : Engine) {p : Phase} (h : p.hasUnits = true) :
    g.enterPart p = { g with phase := some p, unitCount := 0, between := true, unitOut := [] } := by
  cases p <;> simp [Phase.hasUnits] at h <;> rfl

/-- DUMMY at its start: its first bit period runs, with LnDO low (R73). -/
@[simp] theorem enterPart_dummy (g : Engine) :
    g.enterPart .dummy = { g with phase := some .dummy, unitCount := 0, between := false, unitOut := [false] } := rfl

/-- A cut in COMMAND, ADDRESS, DATA or TRAIL: TRAIL at once between two units, and otherwise nothing yet (R80). -/
theorem cutAfterUnit_cases (g : Engine) :
    (g.between = true ∧ g.cutAfterUnit = g.enterTrail) ∨ (g.between = false ∧ g.cutAfterUnit = g) := by
  cases h : g.between <;> simp [Engine.cutAfterUnit, h]

/-- What stays in an engine while it moves through the parts of a transaction: all but the part, its units, the words not
yet begun, the word completing and the record of LnDO. -/
def Engine.SameTransaction (g h : Engine) : Prop :=
  h = { g with phase := h.phase, unitCount := h.unitCount, wordsLeft := h.wordsLeft, between := h.between
               completing := h.completing, unitOut := h.unitOut, laneOut := h.laneOut }

theorem enterPart_same (g : Engine) (p : Phase) : g.SameTransaction (g.enterPart p) := rfl

theorem beforeUnit_same (g : Engine) (p : Phase) : g.SameTransaction (g.beforeUnit p) := rfl

theorem Engine.SameTransaction.trans {g h k : Engine} (a : g.SameTransaction h) (b : h.SameTransaction k) :
    g.SameTransaction k := by
  unfold Engine.SameTransaction at *
  rw [b, a]

theorem afterPart_same (s : State) (g : Engine) (p : Phase) : g.SameTransaction (s.afterPart g p) := by
  unfold State.afterPart
  split <;> exact enterPart_same ..

theorem beginUnit_same (s : State) (g : Engine) (p : Phase) : g.SameTransaction (s.beginUnit g p) := by
  unfold State.beginUnit
  split
  · rfl
  · exact enterPart_same ..

theorem afterUnit_same (s : State) (g : Engine) (p : Phase) : g.SameTransaction (s.afterUnit g p) := by
  have counted : g.SameTransaction { g.unitDone with unitCount := g.unitCount + 1 } := rfl
  unfold State.afterUnit
  simp only
  split
  · exact counted.trans (enterPart_same ..)
  · split
    · exact counted.trans (enterPart_same ..)
    · split
      · exact counted.trans (beforeUnit_same ..)
      · exact counted.trans (afterPart_same ..)

/-- All that the end of a data word's bit periods can lead to (R73, R80). -/
theorem afterWordBits_cases (g : Engine) :
    ((g.cut ≠ .none ∨ g.wordsLeft = 0 ∨ g.currentSlot = none) ∧ g.afterWordBits = g.enterTrail) ∨
      (g.cut = .none ∧ g.wordsLeft ≠ 0 ∧ g.currentSlot ≠ none ∧
        g.afterWordBits = { g with between := true, unitOut := [] }) := by
  unfold Engine.afterWordBits
  split
  · next h => exact .inl ⟨h, rfl⟩
  · next h =>
    simp only [not_or, not_not] at h
    exact .inr ⟨h.1, h.2.1, h.2.2, rfl⟩

theorem afterWordBits_same (g : Engine) : g.SameTransaction g.afterWordBits := by
  rcases afterWordBits_cases g with ⟨-, h⟩ | ⟨-, -, -, h⟩ <;> rw [h] <;> rfl

theorem afterLateWord_same (g : Engine) : g.SameTransaction g.afterLateWord := by
  have ended : g.SameTransaction { g.unitDone with completing := some g.unitCount } := rfl
  exact ended.trans (afterWordBits_same _)

theorem afterWord_same (g : Engine) : g.SameTransaction g.afterWord := by
  have counted : g.SameTransaction { g.unitDone with unitCount := g.unitCount + 1 } := rfl
  exact counted.trans (afterWordBits_same _)

theorem inputTaken_same (g : Engine) : g.SameTransaction g.inputTaken := rfl

/-- All that a PHASE_END can do: nothing, or move the engine of its lane on inside the transaction in hand (R73, R80). -/
theorem execPhaseEnd_cases {l : LaneId} {s t : State} (h : execPhaseEnd l s = .next t) :
    t = s ∨ ∃ g : Engine, s.resetHeld = false ∧ s.engines[l].engineState = .shifting ∧
      s.engines[l].SameTransaction g ∧ t = s.setEngine l g := by
  rcases unlessHeld_cases h with ⟨-, hx⟩ | ⟨hs, hx⟩
  · simp only [Host.Outcome.next.injEq] at hx; exact .inl hx
  · simp only at hx
    split at hx
    · next p hsh hp =>
      have moved (g : Engine) (hg : s.engines[l].SameTransaction g)
          (ht : (.next t : Result) = .next (s.setEngine l g)) :
          t = s ∨ ∃ g : Engine, s.resetHeld = false ∧ s.engines[l].engineState = .shifting ∧
            s.engines[l].SameTransaction g ∧ t = s.setEngine l g :=
        .inr ⟨g, hs, hsh, hg, by simpa using ht⟩
      split at hx
      · exact moved _ (beginUnit_same ..) hx
      · split at hx
        · exact moved _ (afterPart_same ..) hx
        · exact moved _ (afterUnit_same ..) hx
        · exact moved _ (afterUnit_same ..) hx
        · exact moved _ (afterUnit_same ..) hx
        · split at hx
          · exact moved _ (afterLateWord_same _) hx
          · simp only [Host.Outcome.next.injEq] at hx; exact .inl hx
        · simp only [Host.Outcome.next.injEq] at hx; exact .inl hx
    · simp only [Host.Outcome.next.injEq] at hx; exact .inl hx

/-- A completed word changes its slot's beatsDone and its beat, and nothing else (R59, R75, R76). -/
theorem wordDone_frame (s : State) (g : Engine) (j : Nat) (din : Word) :
    s.wordDone g j din = { s with slots := (s.wordDone g j din).slots, pool := (s.wordDone g j din).pool } := by
  unfold State.wordDone
  split
  · rfl
  · simp only
    split <;> rfl

/-- All that a WORD_COMPLETE can do: nothing, or the completion of one word, after which the engine moves on inside the
transaction in hand (R72, R75, R76). -/
theorem execWordComplete_cases {l : LaneId} {din : Word} {s t : State} (h : execWordComplete l din s = .next t) :
    t = s ∨ ∃ (j : Nat) (g : Engine), s.resetHeld = false ∧ s.engines[l].engineState = .shifting ∧
      s.engines[l].SameTransaction g ∧ t = (s.wordDone s.engines[l] j din).setEngine l g := by
  rcases unlessHeld_cases h with ⟨-, hx⟩ | ⟨hs, hx⟩
  · simp only [Host.Outcome.next.injEq] at hx; exact .inl hx
  · simp only at hx
    split at hx
    · next j hsh hj =>
      exact .inr ⟨j, _, hs, hsh, inputTaken_same _, by simpa using hx⟩
    · next hsh hj =>
      split at hx
      · exact .inr ⟨_, _, hs, hsh, afterWord_same _, by simpa using hx⟩
      · simp only [Host.Outcome.next.injEq] at hx; exact .inl hx
    · simp only [Host.Outcome.next.injEq] at hx; exact .inl hx

end Sys2Proof.Machine
end

