-- ==== Sys2Proof/Tests/Slice0.lean ====
section
/-! SUPPORT. Tests on small states: the checks of WellFormed refuse ill-formed commands, the manual's worked numbers come
out, and every statement's premises are met together by a concrete state, clause by clause. -/

namespace Sys2Proof.Tests

open Sys2Proof.Machine

-- One test is checked after the other: checked side by side, their threads' stacks alone pass the memory limit.
set_option Elab.async false

/-! ### Frames and small states -/

/-- A frame in which a packet arrives undamaged. -/
def frameOf (p : HostPacket) : Frame := Frame.ofWords (p.header :: p.rest)

/-- A SYNC, an ACK and a NAK from the host, and a request packet. -/
def syncPacket : HostPacket := ⟨0xA0000000#32, []⟩
def ackPacket (next : SeqNum) : HostPacket := ⟨8#4 ++ next ++ 0#21, []⟩
def nakPacket (next : SeqNum) : HostPacket := ⟨9#4 ++ next ++ 0#21, []⟩
def requestPacket (kind : BitVec 4) (seq : SeqNum) (length : BitVec 8) (rest : List Word) : HostPacket :=
  ⟨requestHeader kind seq .privileged 0 0x22 length, rest⟩

/-- A frame too short to hold a header word and a check value. -/
def shortFrame : Frame := ⟨[0x12, 0x34, 0x56, 0x78, 0x9A, 0xBC, 0xDE], false⟩

/-- The part with the link UP and nothing due. -/
def up : State :=
  { State.reset with link := { LinkPort.reset.synced with due := ⟨false, false, false, false⟩ }, credits := .initial }

/-- The part held in reset. -/
def held : State :=
  { State.reset with resetHeld := true, link := { LinkPort.reset with requestTimer := none } }

/-- Endpoint 9 in state `x`, on lane 2, select 1. -/
def withNine (x : EpState) : State := up.setDescriptor 9 { Descriptor.reset 9 with state := x }

/-- Entry 7 of the manual's worked example: a BLOCK window of endpoint 9 (section 1.8, step 2), posted or not. -/
def blockWindow (posted : Bool) : WindowEntry :=
  { valid := true, base := 0x50000000, sizeLog := 20, kind := .block, endpoint := 9, readAllowed := true,
    writeAllowed := true, privilegedOnly := true, posted := posted, readCmd := some 0x0B, writeCmd := some 0x02,
    addrWidth := 3, addrBase := 0x100000, dummy := 8 }

/-- Endpoint 9 in state `x` behind entry 7. -/
def mapped (x : EpState) (posted : Bool) : State := (withNine x).setWindow 7 (blockWindow posted)

/-- A MEM request, and a state in which it is next to be taken. -/
def memRequest (d : Direction) (address : Word) (length : BitVec 8) (beats : List Word) : MemRequest :=
  ⟨d, 0x22, .privileged, address, length, beats⟩
def givenMem (s : State) (m : MemRequest) : State := { s with memHanded := [m] }

/-- A command, a CFG request, and a state in which it is next to be taken. -/
def command (cls : ReqClass) (code index : Byte) : CfgRequest := ⟨.write, 0x33, cls, 0x008, 1, [code ++ 0#16 ++ index]⟩
def cfgWriteOf (start : BitVec 10) (data : List Word) : CfgRequest :=
  ⟨.write, 0x33, .privileged, start, BitVec.ofNat 8 data.length, data⟩
def given (s : State) (r : CfgRequest) : State := { s with cfgHanded := [r] }

/-- Slot 7 of the worked block read: 16 beats in blocks 12 and 13 (section 4.7). -/
def blockSlot (st : SlotState) (done : Nat) : Slot :=
  { state := st, tag := 0x44, cls := .privileged, direction := .read, posted := false, length := 16, beatsDone := done,
    blocks := [12, 13], translation := some ⟨7, .block, 9, some 0x0B, 3, 0x102A40, 8⟩, status := none }

/-- Lane 2's engine in the worked block read, in a state and part of SHIFTING. -/
def blockEngine (st : EngineState) (p : Option Phase) (units left : Nat) (cut : Cut) : Engine :=
  { Engine.reset with
    engineState := st, phase := p, unitCount := units, wordsLeft := left, cut := cut, currentEndpoint := some 9
    currentSlot := some 7, value := 0x102A40, selects := selectAsserted 1 }

/-- The worked block read in hand, its endpoint in state `x`. -/
def reading (x : EpState) (g : Engine) (sl : Slot) : State :=
  (((mapped x false).setSlot 7 sl).setQueue 9 [7]).setEngine 2 g

/-- The same with the engine idle and the slot at the head of its queue. -/
def queued : State := reading .active Engine.reset (blockSlot .queued 0)

/-- A replay buffer of two packets, numbered 126 and 127. -/
def buffered : LinkPort :=
  { up.link with replayBuffer := [⟨126, .notice .malformed⟩, ⟨127, .notice .malformed⟩], outboundNext := 0,
                 replayTimer := some 128 }
def withLink (k : LinkPort) : State := up.setLink k

/-! ### WellFormed: each check refuses an ill-formed command -/

theorem test_bad_packet_of_a_good_frame_refused : (Instr.badPacket (frameOf syncPacket)).wellFormed = false := by
  decide +kernel
theorem test_sequenced_packet_of_an_ack_refused : (Instr.sequencedPacket (frameOf (ackPacket 5))).wellFormed = false := by
  decide +kernel
theorem test_host_ack_of_a_nak_refused : (Instr.hostAck (frameOf (nakPacket 5))).wellFormed = false := by decide +kernel
theorem test_host_nak_of_an_ack_refused : (Instr.hostNak (frameOf (ackPacket 5))).wellFormed = false := by decide +kernel
theorem test_sync_of_a_bad_frame_refused : (Instr.sync shortFrame).wellFormed = false := by decide +kernel
theorem test_arrivals_of_their_kind_accepted :
    (Instr.badPacket shortFrame).wellFormed = true ∧ (Instr.hostAck (frameOf (ackPacket 5))).wellFormed = true ∧
      (Instr.hostNak (frameOf (nakPacket 5))).wellFormed = true ∧ (Instr.sync (frameOf syncPacket)).wellFormed = true ∧
      (Instr.sequencedPacket (frameOf (requestPacket 1 0 1 [0]))).wellFormed = true := by
  decide +kernel

/-! ### The manual's numbers -/

/-- The header word of section 11.6, and its bytes. -/
theorem test_read_data_header_of_the_example :
    OutPacket.words (.sequenced ⟨34, .readData 0x22 .busy []⟩) = [0x54462200#32] ∧
      (OutPacket.bytes (.sequenced ⟨34, .readData 0x22 .busy []⟩)).take 4 = [0x54, 0x46, 0x22, 0x00] := by
  decide +kernel

/-- The check value of the nine ASCII digits under this generator, all ones at the start and no inversion: the published
value of that code. -/
theorem test_check_value_of_nine_digits :
    checkValue [0x31, 0x32, 0x33, 0x34, 0x35, 0x36, 0x37, 0x38, 0x39] = 0x0376E6E7#32 := by
  decide +kernel

/-- The frame the part sends is read back as its words (R129). -/
theorem test_sent_frame_is_read_back : (Frame.ofWords [0x54462200#32]).packet? = some ⟨0x54462200#32, []⟩ := by
  decide +kernel

/-- An unknown kind code is treated as sequenced, with its sequence number, and is malformed (R128, R174). -/
theorem test_unknown_kind_is_sequenced_and_malformed :
    (frameOf ⟨0xD0A00000#32, []⟩).arrival = .sequenced ⟨0xD0A00000#32, []⟩ ∧
      (HostPacket.seq ⟨0xD0A00000#32, []⟩) = 5 ∧ (HostPacket.request? ⟨0xD0A00000#32, []⟩) = none := by
  decide +kernel

/-- The staging record of section 1.8, step 1, and COMMIT-WINDOW 3 of it. -/
def stagedRegister : State :=
  { up with staging := tabulate fun k : Fin 8 =>
      ([0x40000000, 0x0005000A, 0x00000003, 0x01020103, 0x00000001, 0, 0, 0] : List Word).getD k.val 0 }

theorem test_commit_of_the_worked_register_window :
    (commitWindow 3 stagedRegister).1 = .ok ∧
      (commitWindow 3 stagedRegister).2.lookup 0x400003FF = some 3 ∧
      (commitWindow 3 stagedRegister).2.lookup 0x40000400 = none := by
  decide +kernel

/-- The outcome's state meets `P`; an outcome that is no next state does not. -/
def gives (r : Result) (P : State → Bool) : Bool :=
  match r with
  | .next t => P t
  | .fault _ => false
  | .refused _ => false

/-- Step 5 of section 1.8: a MEM-READ of 16 beats through entry 7 has first value 0x10_2A40, 3 address bytes, command
0x0B and 8 dummy bit periods; it takes two blocks and joins queue 9. -/
theorem test_worked_block_read_accepted :
    gives (exec .memRead (givenMem (mapped .active true) (memRequest .read 0x50002A40 16 []))) (fun t =>
      decide (t.slots[0].translation = some ⟨7, .block, 9, some 0x0B, 3, 0x102A40, 8⟩) &&
        decide (t.slots[0].blocks = [0, 1]) && decide (t.queues[9] = [0]) && decide (t.slots[0].posted = false)) =
      true := by
  decide +kernel

/-- Event 1 of section 4.7: the grant. -/
theorem test_worked_grant :
    gives (exec (.grant 2) queued) (fun t =>
      decide (t.engines[2].wordsLeft = 16) && decide (t.engines[2].value = 0x102A40) &&
        decide (t.engines[2].selects = 0xD) && decide (t.engines[2].nextSelect = 2) &&
        decide (t.slots[7].state = .active)) = true := by
  decide +kernel

/-- Event 3 of section 4.7: LEAD ends and 0x0B goes out, bit 7 first. In bit period 4, the first high one, LnCLK is low
until core-clock period 10 and high from there to period 20 (R70, clockMode 0, clockDiv 10). -/
theorem test_worked_command_byte :
    gives (exec (.phaseEnd 2) (reading .active (blockEngine .shifting (some .lead) 0 16 .none) (blockSlot .active 0)))
      (fun t => decide (t.engines[2].phase = some .command) &&
        gives (exec (.phaseEnd 2) t) (fun u =>
          decide (u.engines[2].unitOut = [false, false, false, false, true, false, true, true]) &&
            decide ([0, 9, 10, 19, 20].map u.engines[2].clockLevelAt = [false, false, true, true, false]) &&
            decide ([3, 4].map (u.engines[2].dataLevelAt 0 · 0) = [false, true]))) = true := by
  decide +kernel

/-- Events 4 and 5 of section 4.7: the second address byte is 0x2A; each dummy bit period is counted, and the eighth ends
DUMMY (R65). -/
theorem test_worked_address_and_dummy :
    gives (exec (.phaseEnd 2) (reading .active (blockEngine .shifting (some .address) 0 16 .none) (blockSlot .active 0)))
      (fun t => gives (exec (.phaseEnd 2) t) (fun u => decide (u.engines[2].phase = some .address) &&
        decide (u.engines[2].unitOut = [false, false, true, false, true, false, true, false]))) = true ∧
      [0, 6, 7].map (fun n => gives (exec (.phaseEnd 2)
        (reading .active (blockEngine .shifting (some .dummy) n 16 .none) (blockSlot .active 0)))
        (fun t => decide (t.engines[2].phase = some .dummy ∧ t.engines[2].unitCount = n + 1))) = [true, true, false] := by
  decide +kernel

/-- Event 7 of section 4.7: the first word goes to position 0 of block 12; the first input is the word's bit 7. -/
theorem test_worked_first_word :
    gives (exec (.wordComplete 2 0x01) (reading .active (blockEngine .shifting (some .data) 0 15 .none)
      (blockSlot .active 0)))
      (fun t => decide (t.pool[12][0] = 0x80) && decide (t.slots[7].beatsDone = 1) &&
        decide (t.engines[2].phase = some .data) && decide (t.engines[2].unitCount = 1)) = true := by
  decide +kernel

/-- R72 with clockMode 1 and a sampleDelay of 1: the bits of the sixteenth word end, TRAIL begins, the release waits, and
the last input, taken in TRAIL, completes the word. -/
theorem test_last_input_taken_in_trail :
    gives (exec (.phaseEnd 2) (reading .active { blockEngine .shifting (some .data) 15 0 .none with late := true }
      (blockSlot .active 15)))
      (fun t => decide (t.engines[2].phase = some .trail) && gives (exec (.release 2) t) (fun u => decide (u = t)) &&
        gives (exec (.wordComplete 2 0x01) t) (fun u => decide (u.pool[13][7] = 0x80) &&
          decide (u.slots[7].beatsDone = 16) && decide (u.engines[2].phase = some .trail) &&
          gives (exec (.release 2) u) (fun v => decide (v.engines[2].engineState = .gap)))) = true := by
  decide +kernel

/-- Events 8a to 8c of section 4.7: ABORT during the sixth word; the word is stored and counted, and the release ends the
slot ABORTED with 6 beats. -/
theorem test_worked_abort :
    gives (exec (.wordComplete 2 0) (reading .stopping (blockEngine .shifting (some .data) 5 10 .abort)
      (blockSlot .active 5)))
      (fun t => decide (t.engines[2].phase = some .trail) && decide (t.slots[7].beatsDone = 6) &&
        gives (exec (.release 2) t) (fun u =>
          decide (u.slots[7].status = some .aborted) && decide (u.completions[9] = [7]) &&
            decide (u.endpoints[9].state = .disabled) && decide (u.endpoints[9].transactionsDone = 0) &&
            decide (u.engines[2].gapTimer = some 2))) = true := by
  decide +kernel

/-- The transaction of section 4.7 takes 170 bit periods, the register write of section 5.6 at select 1 takes 34. -/
theorem test_transaction_lengths :
    transactionBitPeriods (blockSlot .active 0) ⟨7, .block, 9, some 0x0B, 3, 0x102A40, 8⟩ 16 8 = 170 ∧
      transactionBitPeriods { blockSlot .active 0 with direction := .write } ⟨7, .register, 9, some 2, 1, 0, 0⟩ 1 16 =
        34 := by
  decide +kernel

/-- Event 1 of section 8.10: NAK(42) on packets 40 to 44. -/
theorem test_worked_nak :
    gives (exec (.hostNak (frameOf (nakPacket 42)))
      (withLink { up.link with
        replayBuffer := [40, 41, 42, 43, 44].map fun n => ⟨n, .notice .malformed⟩
        outboundNext := 45, replayTimer := some 128 }))
      (fun t => decide (t.link.replayBuffer.map SeqPacket.seq = [42, 43, 44]) && decide (t.link.replayPointer = 42) &&
        decide (t.link.replayCount = 1) && decide (t.link.counters.replays = 1) &&
        decide (t.link.replayInProgress = true)) = true := by
  decide +kernel

/-- Section 6.6, events 1 and 2: at 12 packets the notice takes the thirteenth place; at 13 a data reply waits. -/
def twelve (k : Nat) : LinkPort :=
  { up.link with replayBuffer := (List.range k).map fun n => ⟨BitVec.ofNat 7 (20 + n), .notice .malformed⟩
                 outboundNext := BitVec.ofNat 7 (20 + k), replayTimer := some 128 }
def refusedSlot30 : Slot :=
  { Slot.reset with state := .complete, tag := 0x22, length := 4, status := some .busy }
def waiting (k : Nat) (notices : List Notice) : State :=
  { (up.setSlot 30 refusedSlot30).setLink (twelve k) with immediate := [30], notices := notices }

theorem test_worked_notice_before_reply :
    gives (exec .notice (waiting 12 [.postedFail 8 0x41 .aborted 2])) (fun t =>
      decide (t.link.replayBuffer.length = 13) && decide (t.notices = []) && decide (t.credits = up.credits)) = true ∧
      gives (exec .readData (waiting 13 [])) (fun t => decide (t = waiting 13 [])) = true := by
  decide +kernel

theorem test_worked_immediate_reply :
    gives (exec .readData (waiting 8 [])) (fun t =>
      decide (t.slots[30].state = .free) && decide (t.immediate = []) && decide (t.credits.request.available = 65) &&
        decide (t.link.due.ack = true)) = true := by
  decide +kernel

/-- A step runs the command at the front: the SYNC that brings the link up (R132). -/
theorem test_step_runs_sync :
    gives (step { State.reset with pending := [.sync (frameOf syncPacket)] }) (fun t =>
      decide (t.link.linkState = .up) && decide (t.link.due.syncAck = true) && decide (t.credits = .initial) &&
        decide (t.pending = [])) = true := by
  decide +kernel

/-! ### Witnesses: the premises of each statement are met together, clause by clause -/

theorem witness_StepRunsTheFrontCommand : State.reset.pending = [] := rfl

theorem witness_CommandsLeaveTheQueue : ∃ t : State, exec .transmissionEnd up = .next t := ⟨_, rfl⟩

theorem witness_NothingHappensWhileResetIsLow :
    held.resetHeld = true ∧ Instr.ack ≠ .resetNAssert ∧ Instr.ack ≠ .resetNRelease := by
  decide

theorem witness_ResetNAssertAndRelease :
    held.resetHeld = true ∧ up.resetHeld = false ∧
      exec .resetNAssert up = .next { held with pending := up.pending, pool := up.pool } :=
  ⟨rfl, rfl, rfl⟩

theorem witness_DeviceResetCommand (cls : ReqClass) :
    let s := given up (command cls 0x5A 0)
    s.resetHeld = false ∧ s.cfgHanded = [command cls 0x5A 0] ∧ (command cls 0x5A 0).Commands 0x5A ∧
      (command cls 0x5A 0).cls = cls ∧ s.replies.length < 4 := by
  cases cls <;> exact ⟨rfl, rfl, ⟨rfl, rfl, rfl, by decide⟩, rfl, by decide⟩

theorem witness_BadFrames :
    (⟨[], true⟩ : Frame).framingError = true ∧ shortFrame.bytes.length < 8 ∧
      4 * (1 + 1 + 64 + 1) < (⟨List.replicate 269 0, false⟩ : Frame).bytes.length ∧
      (⟨List.replicate 9 0, false⟩ : Frame).bytes.length % 4 ≠ 0 ∧
      (0 : Word) ≠ checkValue (bytesOfWords [0xA0000000]) := by
  decide +kernel

/-- Reads and writes of 1 and 64 beats, a write of 65 that carries none, CFG requests of 1 and 16 words. -/
theorem witness_HostPacketsReadBack :
    MemConsistent (memRequest .read 0 64 []) ∧ MemConsistent (memRequest .write 0 1 [7]) ∧
      MemConsistent (memRequest .write 0 64 (List.replicate 64 7)) ∧ MemConsistent (memRequest .write 0 65 []) ∧
      CfgConsistent ⟨.read, 0, .normal, 0, 16, []⟩ ∧ CfgConsistent (cfgWriteOf 0 [7]) ∧
      CfgConsistent (cfgWriteOf 0 (List.replicate 16 7)) :=
  ⟨rfl, rfl, rfl, rfl, ⟨by decide, by decide, rfl⟩, ⟨by decide, by decide, rfl⟩, ⟨by decide, by decide, rfl⟩⟩

/-- A bad frame; packets 0, 1, 63, 64 and 127 from E. -/
theorem witness_PacketsNotAccepted :
    up.resetHeld = false ∧ up.link.linkState = .up ∧ State.reset.resetHeld = false ∧
      State.reset.link.linkState = .down ∧ shortFrame.arrival = .bad ∧
      (∀ n : Fin 128, n ∈ [(0 : Fin 128), 1, 63, 64, 127] →
        (frameOf (requestPacket 1 (BitVec.ofFin n) 1 [0])).arrival =
            .sequenced (requestPacket 1 (BitVec.ofFin n) 1 [0]) ∧
          ((requestPacket 1 (BitVec.ofFin n) 1 [0]).seq - up.link.expectedSeq).toNat = n.val) := by
  decide +kernel

/-- A CFG-READ of 17 words, an ACK and a NAK with a nonzero bit, a SYNC with a payload. -/
theorem witness_MalformedPackets :
    up.resetHeld = false ∧ up.link.linkState = .up ∧ State.reset.link.linkState = .down ∧
      (frameOf (requestPacket 3 0 17 [0])).arrival = .sequenced (requestPacket 3 0 17 [0]) ∧
      (requestPacket 3 0 17 [0]).seq = up.link.expectedSeq ∧ (requestPacket 3 0 17 [0]).request? = none ∧
      (frameOf ⟨0x80000001#32, []⟩).arrival = .ack ⟨0x80000001#32, []⟩ ∧
      (frameOf ⟨0x90000001#32, []⟩).arrival = .nak ⟨0x90000001#32, []⟩ ∧
      (0x80000001#32).extractLsb' 0 21 ≠ 0 ∧ (0x90000001#32).extractLsb' 0 21 ≠ 0 ∧
      (frameOf ⟨0xA0000000#32, [0]⟩).arrival = .sync ⟨0xA0000000#32, [0]⟩ := by
  decide +kernel

/-- A MEM-READ of 64 beats, which needs 8 data credits, and a CFG-READ, with exactly the credits they need. -/
def exactCredits : State := { up with credits := ⟨⟨64, 1⟩, ⟨128, 8⟩, ⟨4, 1⟩⟩ }

theorem witness_PacketHandedOn :
    exactCredits.resetHeld = false ∧ exactCredits.link.linkState = .up ∧
      (frameOf (requestPacket 1 0 64 [0])).arrival = .sequenced (requestPacket 1 0 64 [0]) ∧
      (requestPacket 1 0 64 [0]).seq = exactCredits.link.expectedSeq ∧
      (requestPacket 1 0 64 [0]).request? = some (.mem (memRequest .read 0 64 [])) ∧
      1 ≤ exactCredits.credits.request.available ∧
      dataNeeded (memRequest .read 0 64 []) ≤ exactCredits.credits.data.available ∧
      (frameOf (requestPacket 3 0 16 [0])).arrival = .sequenced (requestPacket 3 0 16 [0]) ∧
      (requestPacket 3 0 16 [0]).request? = some (.cfg ⟨.read, 0x22, .privileged, 0, 16, []⟩) ∧
      1 ≤ exactCredits.credits.management.available := by
  decide +kernel

/-- One credit short of each kind. -/
theorem witness_CreditOverrun :
    let none_ : State := { up with credits := .reset }
    let oneShort : State := { up with credits := ⟨⟨64, 1⟩, ⟨128, 7⟩, ⟨4, 0⟩⟩ }
    none_.credits.request.available = 0 ∧ 1 ≤ oneShort.credits.request.available ∧
      oneShort.credits.data.available < dataNeeded (memRequest .read 0 64 []) ∧
      oneShort.credits.management.available = 0 ∧ none_.link.expectedSeq = 0 ∧ oneShort.link.expectedSeq = 0 ∧
      none_.link.linkState = .up ∧ oneShort.link.linkState = .up ∧
      (requestPacket 1 0 64 [0]).request? = some (.mem (memRequest .read 0 64 [])) ∧
      (requestPacket 3 0 16 [0]).request? = some (.cfg ⟨.read, 0x22, .privileged, 0, 16, []⟩) ∧
      (frameOf (requestPacket 1 0 64 [0])).arrival = .sequenced (requestPacket 1 0 64 [0]) ∧
      (frameOf (requestPacket 3 0 16 [0])).arrival = .sequenced (requestPacket 3 0 16 [0]) := by
  decide +kernel

theorem buffered_law : buffered.bufferLaw := ⟨by decide, rfl, rfl, rfl⟩

/-- ACK(126), ACK(127), ACK(0) and ACK(1) on packets 126 and 127: none, one and both leave, and out of window; a replay at
127 whose packet stays or leaves. -/
theorem witness_HostAck :
    (withLink buffered).link.bufferLaw ∧ (withLink buffered).link.linkState = .up ∧
      (withLink buffered).resetHeld = false ∧
      (∀ n : Fin 128, n ∈ [(126 : Fin 128), 127, 0, 1] →
        (frameOf (ackPacket (BitVec.ofFin n))).arrival = .ack (ackPacket (BitVec.ofFin n)) ∧
          (ackPacket (BitVec.ofFin n)).rest = [] ∧ (ackPacket (BitVec.ofFin n)).header.extractLsb' 0 21 = 0) ∧
      ((ackPacket 126).seq - buffered.oldestSeq).toNat = 0 ∧ ((ackPacket 127).seq - buffered.oldestSeq).toNat = 1 ∧
      ((ackPacket 0).seq - buffered.oldestSeq).toNat = 2 ∧ ((ackPacket 1).seq - buffered.oldestSeq).toNat = 3 ∧
      (({ buffered with replayInProgress := true, replayPointer := 127 } : LinkPort).acknowledge 127).replayPointer =
        127 ∧
      (({ buffered with replayInProgress := true, replayPointer := 126 } : LinkPort).acknowledge 127).replayPointer =
        127 :=
  ⟨buffered_law, by decide +kernel⟩

/-- NAK(1) out of window; NAK(0) empties the buffer; NAK(126) starts a replay at a replayCount of 3 and fails the link at
4. -/
theorem witness_HostNak :
    let at_ (n : Nat) : LinkPort := { buffered with replayCount := n }
    (frameOf (nakPacket 126)).arrival = .nak (nakPacket 126) ∧ (frameOf (nakPacket 0)).arrival = .nak (nakPacket 0) ∧
      (frameOf (nakPacket 1)).arrival = .nak (nakPacket 1) ∧ (nakPacket 126).header.extractLsb' 0 21 = 0 ∧
      (buffered.outboundNext - buffered.oldestSeq).toNat < ((nakPacket 1).seq - buffered.oldestSeq).toNat ∧
      (buffered.acknowledge 0).replayBuffer = [] ∧ ((at_ 3).acknowledge 126).replayBuffer ≠ [] ∧
      ((at_ 3).acknowledge 126).replayCount < 4 ∧ ((at_ 4).acknowledge 126).replayBuffer ≠ [] ∧
      4 ≤ ((at_ 4).acknowledge 126).replayCount ∧ (withLink (at_ 4)).link.linkState = .up := by
  decide +kernel

theorem witness_Sync :
    up.resetHeld = false ∧ (frameOf syncPacket).arrival = .sync syncPacket ∧ syncPacket.rest = [] ∧
      syncPacket.header.extractLsb' 0 28 = 0 ∧ State.reset.link.linkState = .down := by
  decide +kernel

theorem witness_TimerExpiries :
    let at_ (n : Nat) : LinkPort := { buffered with replayCount := n, refreshTimer := some 64 }
    (∀ n : Fin 5, (at_ n).linkState = .up ∧ (at_ n).replayTimer ≠ none ∧ (at_ n).refreshTimer ≠ none) ∧
      (at_ 3).replayCount < 4 ∧ 4 ≤ (at_ 4).replayCount ∧ State.reset.resetHeld = false ∧
      State.reset.link.linkState = .down ∧ State.reset.link.requestTimer ≠ none ∧ up.link.replayTimer = none ∧
      up.link.refreshTimer = none ∧ up.link.requestTimer = none := by
  decide

/-- A link reset by each of its three causes. -/
theorem witness_LinkResetEmptiesTheLists :
    up.LinkResetBy (.sync (frameOf syncPacket)) ∧
      (withLink { buffered with replayCount := 4 }).LinkResetBy .replayTimerExpiry ∧
      (withLink { buffered with replayCount := 4 }).LinkResetBy (.hostNak (frameOf (nakPacket 126))) :=
  ⟨⟨rfl, rfl, .inl ⟨_, syncPacket, rfl, by decide +kernel, rfl, by decide⟩⟩,
    ⟨rfl, rfl, .inr (.inl ⟨rfl, by decide, by decide⟩)⟩,
    ⟨rfl, rfl, .inr (.inr ⟨_, nakPacket 126, rfl, by decide +kernel, rfl, by decide, by decide, by decide, by decide⟩)⟩⟩

/-- A SYNC while lane 2's engine is idle, in WAIT_READY, in LEAD, in DUMMY, between two address bytes and in DATA, for an
endpoint that is ACTIVE, DRAINING or STOPPING; after it the engine is still inside the transaction in DATA, and not from
WAIT_READY. -/
theorem witness_LinkResetCutsTheLanes :
    (∀ s ∈ [queued, reading .draining (blockEngine .waitReady none 0 16 .none) (blockSlot .active 0),
        reading .draining (blockEngine .shifting (some .lead) 0 16 .none) (blockSlot .active 0),
        reading .active (blockEngine .shifting (some .dummy) 0 16 .none) (blockSlot .active 0),
        reading .active { blockEngine .shifting (some .address) 1 16 .none with between := true } (blockSlot .active 0),
        reading .stopping (blockEngine .shifting (some .data) 5 10 .abort) (blockSlot .active 5)],
      s.LinkResetBy (.sync (frameOf syncPacket))) ∧
      (reading .draining (blockEngine .shifting (some .data) 5 10 .none) (blockSlot .active 5)).linkReset.Inside 9 ∧
      ¬ (reading .draining (blockEngine .waitReady none 0 16 .none) (blockSlot .active 0)).linkReset.Inside 9 := by
  refine ⟨?_, by unfold State.Inside; decide +kernel, by unfold State.Inside; decide +kernel⟩
  intro s hs
  have key : s.resetHeld = false ∧ s.link.linkState = .up := by
    revert s
    decide +kernel
  exact ⟨key.1, key.2, .inl ⟨_, syncPacket, rfl, by decide +kernel, rfl, by decide⟩⟩

/-- A read of 64 beats that ends at the window's last byte, a write of one beat through a posted window: beats 1 to 7 of
its one block are past its last. -/
theorem witness_MemRequestAccepted :
    (let m := memRequest .read 0x500FFF00 64 []
      let s := givenMem (mapped .active false) m
      s.resetHeld = false ∧ s.memHanded = [m] ∧ s.LowestFree 0 ∧ s.Accepts m 7 ∧ s.freeBlocks.Nodup ∧
        (m.length.toNat + 7) / 8 ≤ s.freeBlocks.length) ∧
      (let m := memRequest .write 0x50000000 1 [9]
        let s := givenMem (mapped .active true) m
        s.resetHeld = false ∧ s.memHanded = [m] ∧ s.LowestFree 0 ∧ s.Accepts m 7 ∧ s.freeBlocks.Nodup ∧
          (m.length.toNat + 7) / 8 ≤ s.freeBlocks.length ∧ m.beats.length = m.length.toNat) := by
  unfold State.LowestFree State.Accepts State.Matches State.InsideWindow State.Allowed State.HasRoom State.Covers
  decide +kernel

/-- Endpoint 9 with one request outstanding and room for no more. -/
def full : State :=
  (reading .active Engine.reset (blockSlot .queued 0)).setDescriptor 9
    { Descriptor.reset 9 with state := .active, maxOutstanding := 1 }

/-- Each refusal, at the boundaries of its check: lengths 0 and 65, an address off a word, an address outside, an end one
beat past the window, the wrong class, the endpoint's state, no room; read or write, posted or not. -/
theorem witness_MemRequestRefused :
    up.LowestFree 0 ∧ up.Refuses (memRequest .read 0x50000000 0 []) .align none ∧
      up.Refuses (memRequest .write 0x50000000 65 []) .align none ∧
      up.Refuses (memRequest .read 0x50000002 1 []) .align none ∧
      up.Refuses (memRequest .read 0x50000000 1 []) .unmapped none ∧
      (mapped .active true).LowestFree 0 ∧
      (mapped .active true).Refuses (memRequest .write 0x500FFFFC 2 [1, 2]) .align (some 7) ∧
      (mapped .active false).Refuses { memRequest .write 0x50000000 1 [1] with cls := .normal } .denied (some 7) ∧
      (mapped .halted true).Refuses (memRequest .write 0x50000000 1 [1]) .epHalted (some 7) ∧
      (mapped .draining false).Refuses (memRequest .read 0x50000000 1 []) .epDisabled (some 7) ∧
      full.Refuses (memRequest .read 0x50000000 1 []) .busy (some 7) ∧
      (mapped .active true).windows[7].posted = true ∧ (mapped .active false).windows[7].posted = false := by
  refine ⟨?_, ?_, ?_, ?_, ?_, ?_, ?_, ?_, ?_, ?_, ?_, by decide, by decide⟩ <;>
    simp only [State.LowestFree, State.Refuses, State.Matches, State.InsideWindow, State.Allowed, State.HasRoom,
      State.Covers] <;>
    decide +kernel

theorem witness_CreditsGrantedAndSlotsFreed : up.freeBlocks.Pairwise (· < ·) := by decide +kernel

theorem witness_NoticeCreation :
    let n : Notice := .malformed
    (waiting 0 (List.replicate 7 n)).notices.length < 8 ∧
      (waiting 0 (List.replicate 8 n)).notices = List.replicate 7 n ++ [n] ∧ (List.replicate 7 n).length = 7 ∧
      (waiting 0 (List.replicate 8 n)).notices.length = 8 ∧
      (waiting 0 (List.replicate 8 n)).notices = n :: (List.replicate 6 n ++ [n]) ∧ (List.replicate 6 n).length = 6 := by
  decide

theorem witness_RequestEnds :
    (blockSlot .active 6).posted = false ∧ ({ blockSlot .active 6 with posted := true } : Slot).posted = true ∧
      (blockSlot .active 6).status.getD .ok = .ok ∧ (blockSlot .active 6).status.getD .timeout ≠ .ok := by
  decide

/-- Sixteen words that end at word 1023, and sixteen that run one past it. -/
theorem witness_CfgRead :
    let inside : CfgRequest := ⟨.read, 0, .normal, 1008, 16, []⟩
    let past : CfgRequest := ⟨.read, 0, .normal, 1009, 16, []⟩
    (given up inside).TakesCfg inside [] ∧ inside.start.toNat + inside.length.toNat - 1 ≤ 1023 ∧
      (given up past).TakesCfg past [] ∧ 1023 < past.start.toNat + past.length.toNat - 1 :=
  ⟨⟨rfl, rfl, by decide⟩, by decide, ⟨rfl, rfl, by decide⟩, by decide⟩

/-- Slot 30 in the immediate list, slot 7 in queue 9 alone, slot 21 in completion list 8 alone, slot 0 free. -/
theorem witness_ManagementWords :
    (∀ k : Fin 16, k ∈ [(7 : Fin 16), 15] → 7 ≤ k.val ∧ k.val ≤ 15) ∧
      (∀ k : Fin 16, k ∈ [(2 : Fin 16), 6] → 2 ≤ k.val ∧ k.val ≤ 6) ∧ (30 : SlotId) ∈ (waiting 8 []).immediate ∧
      queued.immediate = [] ∧ (7 : SlotId) ∈ queued.queues[(9 : EndpointId)] ∧
      (∀ f : EndpointId, (7 : SlotId) ∈ queued.queues[f] → f = 9) ∧
      (∀ f : EndpointId, (21 : SlotId) ∉ (up.setCompletion 8 [21]).queues[f]) ∧
      (21 : SlotId) ∈ (up.setCompletion 8 [21]).completions[(8 : EndpointId)] ∧
      (∀ f : EndpointId, (21 : SlotId) ∈ (up.setCompletion 8 [21]).completions[f] → f = 8) ∧
      (0 : SlotId) ∉ up.immediate ∧
      ∀ f : EndpointId, (0 : SlotId) ∉ up.queues[f] ∧ (0 : SlotId) ∉ up.completions[f] := by
  refine ⟨?_, ?_, ?_, ?_, ?_, ?_, ?_, ?_, ?_, ?_, ?_⟩ <;> decide +kernel

/-- A refusal by class, one past the end, LOCKED at the first word of an endpoint that is ACTIVE, and RANGE at the second
word, an attnInput of 30, behind one that passes. -/
theorem witness_CfgWriteRefused :
    (given up (command .normal 0x20 0)).TakesCfg (command .normal 0x20 0) [] ∧
      1023 < (cfgWriteOf 1023 [1, 2]).start.toNat + (cfgWriteOf 1023 [1, 2]).length.toNat - 1 ∧
      (given (withNine .active) (cfgWriteOf 0x292 [0])).TakesCfg (cfgWriteOf 0x292 [0]) [] ∧
      (withNine .active).WordFails 1 0x292 0 .locked ∧
      (given up (cfgWriteOf 0x205 [7, 30])).TakesCfg (cfgWriteOf 0x205 [7, 30]) [] ∧
      (∀ st : CfgStatus, ¬ up.WordFails 2 0x205 7 st) ∧ up.WordFails 2 0x206 30 .range := by
  refine ⟨⟨rfl, rfl, by decide⟩, by decide, ⟨rfl, rfl, by decide⟩, ?_, ⟨rfl, rfl, by decide⟩, ?_, ?_⟩
  · unfold State.WordFails; decide +kernel
  · intro st; cases st <;> (unfold State.WordFails; decide +kernel)
  · unfold State.WordFails; decide +kernel

/-- Endpoint 9 in state `x` watching input 4 for a high level, its record in state `r`, the latest sample `levels`. -/
def watching (x : EpState) (r : AttnState) (levels : BitVec 16) : State :=
  { ((withNine x).setDescriptor 9 { Descriptor.reset 9 with state := x, attnInput := some 4 }).setAttn 9 ⟨r, none, 0⟩
    with lastSample := some levels }

theorem watching_high (x : EpState) (r : AttnState) : (watching x r 0x0010).LevelNow 9 :=
  ⟨0x0010, rfl, 4, rfl, .inl ⟨rfl, by decide⟩⟩

theorem watching_low (x : EpState) (r : AttnState) : ¬ (watching x r 0xFFEF).LevelNow 9 := by
  rintro ⟨levels, h1, n, h2, h3⟩
  have h1 : (0xFFEF#16) = levels := Option.some.inj h1
  have h2 : (4 : Fin 16) = n := Option.some.inj h2
  subst h1 h2
  rcases h3 with ⟨-, h⟩ | ⟨h, -⟩
  · revert h; decide
  · exact AttnSense.noConfusion h

/-- An attnInput of NONE and a fill word pass; input 4 high on the latest sample is taken at the write. -/
theorem witness_CfgWriteApplied :
    (given up (cfgWriteOf 0x205 [7, 31])).TakesCfg (cfgWriteOf 0x205 [7, 31]) [] ∧
      (∀ st : CfgStatus, ¬ up.WordFails 2 0x205 7 st) ∧ (∀ st : CfgStatus, ¬ up.WordFails 2 0x206 31 st) ∧
      ((31 : Word).extractLsb' 0 5).toNat = (none : Option (Fin 16)).elim 31 Fin.val ∧
      ((4 : Word).extractLsb' 0 5).toNat = (some (4 : Fin 16)).elim 31 Fin.val ∧
      ((4 : Word).extractLsb' 8 2).toNat = AttnSense.levelHigh.code ∧ (watching .active .idle 0x0010).LevelNow 9 ∧
      ¬ (watching .active .idle 0xFFEF).LevelNow 9 := by
  refine ⟨⟨rfl, rfl, by decide⟩, ?_, ?_, by decide, by decide, by decide, watching_high _ _, watching_low _ _⟩
  · intro st; cases st <;> (unfold State.WordFails; decide +kernel)
  · intro st; cases st <;> (unfold State.WordFails; decide +kernel)

theorem witness_AttentionAcknowledge (cls : ReqClass) :
    let r : CfgRequest := ⟨.write, 0, cls, 0x00C, 1, [0x0200]⟩
    (given (watching .active .sent 0x0010) r).TakesCfg r [] ∧ r.word0.getLsbD 9 = true ∧ r.word0.getLsbD 8 = false ∧
      (watching .active .sent 0x0010).attn[(9 : EndpointId)].state = .sent ∧
      (watching .active .sent 0x0010).LevelNow 9 ∧ ¬ (watching .active .sent 0xFFEF).LevelNow 9 :=
  ⟨⟨rfl, rfl, by show 0 < 4; decide⟩, by show (0x0200#32).getLsbD 9 = true; decide,
    by show (0x0200#32).getLsbD 8 = false; decide, by decide +kernel, watching_high _ _, watching_low _ _⟩

/-- The worked register window passes and overlaps nothing; it overlaps an entry over the same range; the staging record
after reset fails the size check for every kind and endpoint. -/
theorem witness_CommitWindow :
    (given stagedRegister (command .privileged 0x01 3)).TakesCfg (command .privileged 0x01 3) [] ∧
      (command .privileged 0x01 3).Commands 0x01 ∧ ((command .privileged 0x01 3).word0.extractLsb' 0 8).toNat = 3 ∧
      (stagedFields stagedRegister.staging).Pass .register 5 ∧
      ¬ stagedRegister.Overlaps 3 (stagedFields stagedRegister.staging) ∧
      (stagedRegister.setWindow 4 { blockWindow false with base := 0x40000000 }).Overlaps 3
        (stagedFields stagedRegister.staging) ∧
      ∀ (kind : WindowKind) (e : EndpointId), ¬ (stagedFields up.staging).Pass kind e := by
  refine ⟨⟨rfl, rfl, by decide⟩, ⟨rfl, rfl, rfl, by decide⟩, by decide, ?_, ?_, ?_, ?_⟩
  · unfold StagedFields.Pass; decide +kernel
  · rintro ⟨v, -, a, hv, -⟩
    have none_valid : ∀ w : WindowId, stagedRegister.windows[w].valid = false := by decide +kernel
    rw [none_valid v] at hv
    exact Bool.noConfusion hv
  · exact ⟨4, by decide, 0x40000000, by decide +kernel, by decide +kernel, by decide +kernel⟩
  · rintro kind e ⟨h, -⟩
    revert h
    decide +kernel

theorem witness_ClearAndFetchWindow :
    (given up (command .privileged 0x02 31)).TakesCfg (command .privileged 0x02 31) [] ∧
      (command .privileged 0x02 31).Commands 0x02 ∧
      (given up (command .privileged 0x03 0)).TakesCfg (command .privileged 0x03 0) [] ∧
      (command .privileged 0x03 0).Commands 0x03 ∧
      ((command .privileged 0x02 31).word0.extractLsb' 0 8).toNat = (31 : WindowId).val ∧
      ((command .privileged 0x03 0).word0.extractLsb' 0 8).toNat = (0 : WindowId).val :=
  ⟨⟨rfl, rfl, by decide⟩, ⟨rfl, rfl, rfl, by decide⟩, ⟨rfl, rfl, by decide⟩, ⟨rfl, rfl, rfl, by decide⟩, by decide,
    by decide⟩

/-- Entry 7 fetched and committed again. -/
def fetchThenCommit : State :=
  { mapped .active true with cfgHanded := [command .privileged 0x03 7, command .privileged 0x01 7] }

theorem witness_FetchThenCommitKeepsTheTable :
    fetchThenCommit.TakesCfg (command .privileged 0x03 7) [command .privileged 0x01 7] ∧
      fetchThenCommit.replies.length < 3 ∧ (command .privileged 0x03 7).Commands 0x03 ∧
      (command .privileged 0x01 7).Commands 0x01 ∧ fetchThenCommit.windows[(7 : WindowId)].valid = true ∧
      fetchThenCommit.windowLaw ∧
      gives (exec .fetchWindow fetchThenCommit) (fun t => gives (exec .commitWindow t) fun _ => true) = true := by
  refine ⟨⟨rfl, rfl, by decide⟩, by decide, ⟨rfl, rfl, rfl, by decide⟩, ⟨rfl, rfl, rfl, by decide⟩, by decide +kernel,
    ?_, by decide +kernel⟩
  unfold State.windowLaw WindowEntry.lawful
  decide +kernel

/-- A command that the Management Unit can take, whatever the rest of the state. -/
theorem command_taken (s : State) (r : CfgRequest) (h : s.resetHeld = false) (hl : s.replies.length < 4) :
    (given s r).TakesCfg r [] :=
  ⟨h, rfl, hl⟩

/-- Endpoint 9 with clockDiv 2 and this sampleDelay, watching input 4; 4 is not below twice clockDiv, 3 is. -/
def delayed (sampleDelay : BitVec 4) (levels : BitVec 16) : State :=
  (watching .disabled .idle levels).setDescriptor 9
    { Descriptor.reset 9 with clockDiv := 2, sampleDelay := sampleDelay, attnInput := some 4 }

/-- Endpoint 10 moved to endpoint 9's lane and select and ACTIVE. -/
def conflicting : State :=
  (delayed 3 0xFFEF).setDescriptor 10 { Descriptor.reset 9 with state := .active }

theorem witness_EnableEndpoint :
    (given (delayed 3 0) (command .privileged 0x10 9)).TakesCfg (command .privileged 0x10 9) [] ∧
      (command .privileged 0x10 9).Commands 0x10 ∧
      ((command .privileged 0x10 9).word0.extractLsb' 0 8).toNat = (9 : EndpointId).val ∧
      (delayed 3 0).endpoints[(9 : EndpointId)].state = .disabled ∧ (delayed 3 0).attn[(9 : EndpointId)].state = .idle ∧
      2 * (delayed 4 0).endpoints[(9 : EndpointId)].clockDiv.toNat ≤
        (delayed 4 0).endpoints[(9 : EndpointId)].sampleDelay.toNat ∧
      (delayed 3 0).endpoints[(9 : EndpointId)].sampleDelay.toNat <
        2 * (delayed 3 0).endpoints[(9 : EndpointId)].clockDiv.toNat ∧
      (∃ x : EndpointId, x ≠ 9 ∧ conflicting.endpoints[x].state ≠ .disabled ∧
        conflicting.endpoints[x].lane = conflicting.endpoints[(9 : EndpointId)].lane ∧
        conflicting.endpoints[x].select = conflicting.endpoints[(9 : EndpointId)].select) ∧
      (¬ ∃ x : EndpointId, x ≠ 9 ∧ (delayed 3 0).endpoints[x].state ≠ .disabled ∧
        (delayed 3 0).endpoints[x].lane = (delayed 3 0).endpoints[(9 : EndpointId)].lane ∧
        (delayed 3 0).endpoints[x].select = (delayed 3 0).endpoints[(9 : EndpointId)].select) ∧
      (delayed 3 0x0010).LevelNow 9 ∧ ¬ (delayed 3 0).LevelNow 9 := by
  refine ⟨command_taken _ _ rfl (by decide), ⟨rfl, rfl, rfl, by decide⟩, by decide, by decide +kernel, by decide +kernel,
    by decide +kernel, by decide +kernel, by decide +kernel, by decide +kernel,
    ⟨0x0010, rfl, 4, rfl, .inl ⟨rfl, by decide⟩⟩, ?_⟩
  rintro ⟨levels, h1, n, h2, h3⟩
  have h1 : (0#16) = levels := Option.some.inj h1
  subst h1
  rcases h3 with ⟨-, h⟩ | ⟨h, -⟩
  · simp at h
  · exact AttnSense.noConfusion h

/-- A DATA engine that a link reset has cut, with nothing in hand and the queue empty. -/
def cutByLink (x : EpState) (p : Phase) : State :=
  ((withNine x).setEngine 2 { blockEngine .shifting (some p) 0 0 .link with currentSlot := none })

theorem witness_DisableEndpoint :
    (given (withNine .active) (command .privileged 0x11 9)).TakesCfg (command .privileged 0x11 9) [] ∧
      (command .privileged 0x11 9).Commands 0x11 ∧ (withNine .active).endpoints[(9 : EndpointId)].state = .active ∧
      (withNine .active).queues[(9 : EndpointId)] = [] ∧ ¬ (withNine .active).Inside 9 ∧
      queued.queues[(9 : EndpointId)] ≠ [] ∧ queued.endpoints[(9 : EndpointId)].state = .active ∧
      (cutByLink .active .data).Inside 9 ∧ (cutByLink .active .data).endpoints[(9 : EndpointId)].state = .active ∧
      (withNine .draining).endpoints[(9 : EndpointId)].state = .draining := by
  refine ⟨command_taken _ _ rfl (by decide), ⟨rfl, rfl, rfl, by decide⟩, ?_⟩
  unfold State.Inside
  decide +kernel

theorem witness_QueueEndedByCommand :
    (∀ s ∈ [reading .halted Engine.reset (blockSlot .queued 0), queued,
        reading .draining Engine.reset (blockSlot .queued 0)],
      s.queues[(9 : EndpointId)].Nodup ∧ s.queues[(9 : EndpointId)] ≠ [] ∧
        (∀ i ∈ s.queues[(9 : EndpointId)], s.slots[i].status = none ∨ s.slots[i].status = some .aborted) ∧
        ¬ s.Inside 9 ∧ s.endpoints[(9 : EndpointId)].state ∈ [EpState.halted, .active, .draining]) ∧
      (given queued (command .privileged 0x12 9)).TakesCfg (command .privileged 0x12 9) [] ∧
      (command .privileged 0x12 9).Commands 0x12 ∧ (command .privileged 0x11 9).Commands 0x11 := by
  refine ⟨?_, command_taken _ _ rfl (by decide), ⟨rfl, rfl, rfl, by decide⟩, ⟨rfl, rfl, rfl, by decide⟩⟩
  unfold State.Inside
  decide +kernel

/-- In DATA, in DUMMY, between two words, and in TRAIL after a link reset's cut. -/
theorem witness_AbortCutsTheTransaction :
    (∀ s ∈ [reading .active (blockEngine .shifting (some .data) 5 10 .none) (blockSlot .active 5),
        reading .draining (blockEngine .shifting (some .dummy) 0 16 .none) (blockSlot .active 0),
        reading .active { blockEngine .shifting (some .data) 5 11 .none with between := true } (blockSlot .active 5),
        cutByLink .active .trail],
      (s.endpoints[(9 : EndpointId)].state = .active ∨ s.endpoints[(9 : EndpointId)].state = .draining) ∧ s.Inside 9) ∧
      (cutByLink .active .trail).engines[(2 : LaneId)].cut = .link ∧
      (blockEngine .shifting (some .data) 5 10 .none).cut ≠ .link := by
  unfold State.Inside
  decide +kernel

/-- In WAIT_READY and in LEAD. -/
theorem witness_AbortBeforeTheFirstUnit :
    ∀ s ∈ [reading .active (blockEngine .waitReady none 0 16 .none) (blockSlot .active 0),
        reading .draining (blockEngine .shifting (some .lead) 0 16 .none) (blockSlot .active 0)],
      (s.endpoints[(9 : EndpointId)].state = .active ∨ s.endpoints[(9 : EndpointId)].state = .draining) ∧ s.Inside 9 ∧
        s.queues[(9 : EndpointId)].Nodup ∧
        (∀ i ∈ s.queues[(9 : EndpointId)], s.slots[i].status = none ∨ s.slots[i].status = some .aborted) ∧
        s.engines[s.endpoints[(9 : EndpointId)].lane].cut ≠ .link ∧
        (s.engines[s.endpoints[(9 : EndpointId)].lane].engineState = .waitReady ∨
          s.engines[s.endpoints[(9 : EndpointId)].lane].phase = some .lead) := by
  unfold State.Inside
  decide +kernel

/-- Endpoint 9 HALTED, to go on draining or not. -/
def haltedNine (drain : Bool) (s : State) : State :=
  s.setDescriptor 9 { Descriptor.reset 9 with
    state := .halted, haltCause := .readyTimeout, drainAfterResume := drain }

theorem witness_ResumeEndpoint :
    (given (haltedNine false up) (command .privileged 0x13 9)).TakesCfg (command .privileged 0x13 9) [] ∧
      (command .privileged 0x13 9).Commands 0x13 ∧
      (∀ d : Bool, (haltedNine d up).endpoints[(9 : EndpointId)].state = .halted ∧
        (haltedNine d up).endpoints[(9 : EndpointId)].drainAfterResume = d) ∧
      (haltedNine true queued).queues[(9 : EndpointId)] ≠ [] ∧ (haltedNine true up).queues[(9 : EndpointId)] = [] := by
  refine ⟨command_taken _ _ rfl (by decide), ⟨rfl, rfl, rfl, by decide⟩, ?_⟩
  decide +kernel

/-- Endpoint states that turn a command away, indexes 32 and 16, class NORMAL, codes 0x00 and 0x5B. -/
theorem witness_CommandsTurnedAway :
    (withNine .active).endpoints[(9 : EndpointId)].state ≠ .disabled ∧
      (withNine .stopping).endpoints[(9 : EndpointId)].state = .stopping ∧
      up.endpoints[(9 : EndpointId)].state = .disabled ∧ up.endpoints[(9 : EndpointId)].state ≠ .halted ∧
      31 < ((command .privileged 0x01 32).word0.extractLsb' 0 8).toNat ∧
      15 < ((command .privileged 0x10 16).word0.extractLsb' 0 8).toNat ∧
      (command .normal 0x20 0).Commands 0x20 ∧ (command .normal 0x20 0).cls = .normal ∧
      (command .privileged 0x00 0).Commands 0x00 ∧ (command .privileged 0x5B 0).Commands 0x5B ∧
      (0x5B#8) ∉ [0x01#8, 0x02#8, 0x03#8, 0x10#8, 0x11#8, 0x12#8, 0x13#8, 0x20#8, 0x5A#8] ∧
      (given up (command .privileged 0x00 0)).TakesCfg (command .privileged 0x00 0) [] :=
  ⟨by decide +kernel, by decide +kernel, by decide +kernel, by decide +kernel, by decide, by decide,
    ⟨rfl, rfl, rfl, by decide⟩, rfl, ⟨rfl, rfl, rfl, by decide⟩, ⟨rfl, rfl, rfl, by decide⟩, by decide,
    command_taken _ _ rfl (by decide)⟩

theorem witness_ClearCounters :
    (given up (command .privileged 0x20 0xFF)).TakesCfg (command .privileged 0x20 0xFF) [] ∧
      (command .privileged 0x20 0xFF).Commands 0x20 :=
  ⟨command_taken _ _ rfl (by decide), ⟨rfl, rfl, rfl, by decide⟩⟩

theorem witness_PacketsAsSent :
    (List.replicate 64 (0 : Word)).length ≤ 64 ∧ (List.replicate 16 (0 : Word)).length ≤ 16 ∧
      (Notice.postedFail 8 0x41 .aborted 64).beatsDone.getD 0 ≤ 64 := by
  decide

theorem witness_ControlPacketsSent :
    let owing (d : DueControl) : State := withLink { up.link with due := d }
    ∀ d ∈ [(⟨true, true, true, false⟩ : DueControl), ⟨false, true, true, false⟩, ⟨false, false, true, false⟩,
        ⟨false, false, false, true⟩],
      (owing d).resetHeld = false ∧ (owing d).transmitter = .free ∧ (owing d).link.due = d := by
  decide

/-- A replay at the older and at the newest of packets 126 and 127. -/
theorem witness_PacketResent :
    ∀ p ∈ buffered.replayBuffer,
      let s := withLink { buffered with replayInProgress := true, replayPointer := p.seq }
      s.resetHeld = false ∧ s.transmitter = .free ∧ s.link.due = ⟨false, false, false, false⟩ ∧
        s.link.replayInProgress = true ∧ s.link.bufferLaw ∧ p ∈ s.link.replayBuffer ∧ p.seq = s.link.replayPointer :=
  fun _ h => ⟨rfl, rfl, rfl, rfl, buffered_law, h, rfl⟩

/-- A reply, a notice and an attention of endpoint 3 at 15 packets. -/
theorem witness_RepliesNoticesAttentionsSent :
    let fifteen : State := withLink (twelve 15)
    let r : CfgReply := ⟨0x33, .ok, none, []⟩
    ({ fifteen with replies := [r] } : State).SendsSequenced ∧
      ({ fifteen with notices := [Notice.malformed] } : State).SendsSequenced ∧
      (fifteen.setAttn 3 ⟨.pending, none, 0⟩).SendsSequenced ∧ fifteen.link.replayBuffer.length < 16 ∧
      (fifteen.setAttn 3 ⟨.pending, none, 0⟩).attn[(3 : EndpointId)] = ⟨.pending, none, 0⟩ ∧
      ∀ x : EndpointId, x < 3 → ¬ ((fifteen.setAttn 3 ⟨.pending, none, 0⟩).attn[x].state = .pending ∧
        (fifteen.setAttn 3 ⟨.pending, none, 0⟩).attn[x].fence = none) :=
  ⟨⟨rfl, rfl, rfl, rfl, rfl⟩, ⟨rfl, rfl, rfl, rfl, rfl⟩, ⟨rfl, rfl, rfl, rfl, rfl⟩, by decide, by decide +kernel,
    by decide +kernel⟩

/-- Section 6.6, event 9: nextCompletion 5, lists 5 to 7 empty, slot 21 at the head of list 8; and event 7's refusal, at
12 packets. -/
def completed : State :=
  { ((up.setSlot 21 { blockSlot .complete 16 with status := some .ok }).setCompletion 8 [21, 22]).setLink (twelve 12)
    with nextCompletion := 5 }

theorem witness_SlotRepliesSent :
    (waiting 12 []).SendsSlotReplies ∧ (waiting 12 []).slots[(30 : SlotId)].status = some .busy ∧
      (waiting 12 []).immediate = [30] ∧ completed.SendsSlotReplies ∧ completed.immediate = [] ∧
      completed.slots[(21 : SlotId)].status = some .ok ∧
      (∀ j : Fin 16, j < 3 → completed.completions[completed.nextCompletion + j] = []) ∧
      completed.completions[completed.nextCompletion + (3 : Fin 16)] = [21, 22] := by
  refine ⟨⟨⟨rfl, rfl, rfl, rfl, rfl⟩, rfl, rfl, ?_, by decide⟩, by decide +kernel, rfl,
    ⟨⟨rfl, rfl, rfl, rfl, rfl⟩, rfl, rfl, ?_, by decide⟩, rfl, by decide +kernel, by decide +kernel,
    by decide +kernel⟩ <;> (unfold State.NoAttnReady; decide +kernel)

theorem witness_OnePacketAtAChoice :
    let s := withLink { up.link with due := ⟨false, false, true, false⟩ }
    gives (exec .ack s) (fun t => decide (t ≠ s)) = true ∧
      gives (exec .readData (waiting 12 [])) (fun t => decide (t ≠ waiting 12 [])) = true := by
  decide +kernel

/-- Endpoint 9 alone is eligible on lane 2, one select past nextSelect; lane 0 has none; in DATA no grant is made. -/
theorem witness_Grant :
    queued.resetHeld = false ∧ queued.engines[(2 : LaneId)].engineState = .idle ∧ queued.eligible 2 9 = true ∧
      queued.endpoints[(9 : EndpointId)].select = queued.engines[(2 : LaneId)].nextSelect + 1 ∧
      (∀ x y : EndpointId, x ≠ y → queued.endpoints[x].state ≠ .disabled → queued.endpoints[y].state ≠ .disabled →
        queued.endpoints[x].lane = queued.endpoints[y].lane →
          queued.endpoints[x].select ≠ queued.endpoints[y].select) ∧
      (∀ (x : EndpointId) (j : Fin 4), queued.eligible 2 x = true →
        queued.endpoints[x].select = queued.engines[(2 : LaneId)].nextSelect + j → 1 ≤ j) ∧
      queued.queues[(9 : EndpointId)] = [7] ∧ queued.slots[(7 : SlotId)].translation.isSome = true ∧
      (∀ x : EndpointId, queued.eligible 0 x = false) ∧
      (blockEngine .shifting (some .data) 5 10 .none).engineState ≠ .idle := by
  decide +kernel

theorem witness_TransmissionEndReadySeenGapEnd :
    ∀ st ∈ [EngineState.idle, .waitReady, .shifting, .gap],
      (reading .active (blockEngine st none 0 16 .none) (blockSlot .active 0)).resetHeld = false ∧
        (reading .active (blockEngine st none 0 16 .none) (blockSlot .active 0)).engines[(2 : LaneId)].engineState =
          st := by
  decide +kernel

theorem witness_ReadyTimeout :
    let s := reading .active (blockEngine .waitReady none 0 16 .none) (blockSlot .active 0)
    s.resetHeld = false ∧ s.engines[(2 : LaneId)].engineState = .waitReady ∧
      s.engines[(2 : LaneId)].currentEndpoint = some 9 ∧ s.engines[(2 : LaneId)].currentSlot = some 7 ∧
      queued.engines[(2 : LaneId)].engineState ≠ .waitReady := by
  decide +kernel

/-- The worked read in LEAD, in COMMAND, at the first and the third address byte, at the seventh and the eighth dummy bit
period, and in words 6 and 16 whose last inputs come late; between units of each part; and under a cut. -/
theorem witness_PhaseEnd :
    (∀ g ∈ [blockEngine .shifting (some .lead) 0 16 .none, blockEngine .shifting (some .command) 0 16 .none,
        blockEngine .shifting (some .address) 0 16 .none, blockEngine .shifting (some .address) 2 16 .none,
        blockEngine .shifting (some .dummy) 6 16 .none, blockEngine .shifting (some .dummy) 7 16 .none,
        { blockEngine .shifting (some .data) 5 10 .none with late := true },
        { blockEngine .shifting (some .data) 15 0 .none with late := true },
        { blockEngine .shifting (some .command) 0 16 .none with between := true },
        { blockEngine .shifting (some .address) 1 16 .none with between := true },
        { blockEngine .shifting (some .data) 6 10 .none with between := true },
        { blockEngine .shifting (some .data) 5 10 .none with between := true, late := true, completing := some 5 }],
      (reading .active g (blockSlot .active 0)).InHand 2 9 7 (blockSlot .active 0)
        ⟨7, .block, 9, some 0x0B, 3, 0x102A40, 8⟩ ∧ g.engineState = .shifting ∧ g.cut = .none) ∧
      (∀ g ∈ [blockEngine .shifting (some .address) 1 16 .link,
          { blockEngine .shifting (some .data) 5 10 .link with late := true }],
        g.engineState = .shifting ∧ g.between = false ∧ g.cut ≠ .none ∧ g.completing = none) ∧
      (blockEngine .shifting (some .command) 0 16 .none).clocking = true ∧
      (blockEngine .shifting (some .lead) 0 16 .none).clocking = false := by
  unfold State.InHand
  decide +kernel

/-- Words 6 and 16 of the worked read, and word 6 under a cut; and words 6 and 16 whose last inputs are taken in the next
word and in TRAIL. -/
theorem witness_WordComplete :
    (∀ g ∈ [blockEngine .shifting (some .data) 5 10 .none, blockEngine .shifting (some .data) 15 0 .none,
        blockEngine .shifting (some .data) 5 10 .abort,
        { blockEngine .shifting (some .data) 5 9 .none with late := true, completing := some 5 },
        { blockEngine .shifting (some .trail) 0 0 .none with late := true, completing := some 15 }],
      let s := reading .active g (blockSlot .active 5)
      s.InHand 2 9 7 (blockSlot .active 5) ⟨7, .block, 9, some 0x0B, 3, 0x102A40, 8⟩ ∧
        s.engines[(2 : LaneId)].engineState = .shifting ∧ s.endpoints[(9 : EndpointId)].wordSize.toNat ≤ 32) ∧
      (blockSlot .active 5).blocks[(0 + 5) / 8]? = some 12 ∧ (blockSlot .active 5).blocks[(0 + 15) / 8]? = some 13 := by
  unfold State.InHand
  decide +kernel

theorem witness_WordCompleteAfterALinkReset :
    (cutByLink .active .data).resetHeld = false ∧ (cutByLink .active .data).engines[(2 : LaneId)].phase = some .data ∧
      (cutByLink .active .data).engines[(2 : LaneId)].currentSlot = none ∧
      (∀ p ∈ [Phase.data, .trail],
        let g : Engine := { blockEngine .shifting (some p) 0 0 .link with
          currentSlot := none, late := true, completing := some 5 }
        (reading .active g Slot.reset).engines[(2 : LaneId)].phase = some p ∧
          (reading .active g Slot.reset).engines[(2 : LaneId)].completing ≠ none ∧
          (reading .active g Slot.reset).engines[(2 : LaneId)].currentSlot = none) ∧
      queued.engines[(2 : LaneId)].engineState ≠ .shifting ∧
      (blockEngine .shifting (some .data) 0 0 .none).currentEndpoint = some 9 ∧
      (blockSlot .active 0).blocks[(0 + 8) / 8]? = some 13 := by
  decide +kernel

/-- TRAIL after the last word of the worked read, for an endpoint that is ACTIVE or DRAINING, and after one beat of a
REGISTER request of 16. -/
theorem witness_ReleaseAfterTheLastWord :
    let g := blockEngine .shifting (some .trail) 0 0 .none
    let registerSlot : Slot := { blockSlot .active 1 with translation := some ⟨7, .register, 9, some 3, 1, 0, 0⟩ }
    (reading .active g (blockSlot .active 16)).InHand 2 9 7 (blockSlot .active 16)
        ⟨7, .block, 9, some 0x0B, 3, 0x102A40, 8⟩ ∧
      (reading .draining g (blockSlot .active 16)).endpoints[(9 : EndpointId)].state = .draining ∧
      (reading .draining g (blockSlot .active 16)).queues[(9 : EndpointId)].erase 7 = [] ∧
      (reading .active g registerSlot).InHand 2 9 7 registerSlot ⟨7, .register, 9, some 3, 1, 0, 0⟩ ∧
      registerSlot.beatsDone < registerSlot.length.toNat ∧ g.phase = some .trail ∧ g.cut = .none ∧
      g.completing = none := by
  unfold State.InHand
  decide +kernel

/-- TRAIL under ABORT for a STOPPING endpoint; under a link reset's cut for one that is STOPPING, DRAINING with and without
work, and ACTIVE. -/
theorem witness_ReleaseAfterACut :
    let g := blockEngine .shifting (some .trail) 0 0 .abort
    (reading .stopping g (blockSlot .active 6)).engines[(2 : LaneId)].cut = .abort ∧
      (reading .stopping g (blockSlot .active 6)).queues[(9 : EndpointId)].Nodup ∧ g.completing = none ∧
      ({ g with completing := some 5 } : Engine).completing ≠ none ∧
      (∀ x ∈ [EpState.stopping, .draining, .active],
        (cutByLink x .trail).engines[(2 : LaneId)].cut = .link ∧
          (cutByLink x .trail).engines[(2 : LaneId)].currentEndpoint = some 9 ∧
          (cutByLink x .trail).endpoints[(9 : EndpointId)].state = x ∧
          (cutByLink x .trail).queues[(9 : EndpointId)] = []) ∧
      ((cutByLink .draining .trail).setQueue 9 [3]).queues[(9 : EndpointId)] ≠ [] := by
  decide +kernel

/-- A high level and a rising edge on input 4, and neither; records IDLE, PENDING at 255 repeats, and SENT. -/
theorem witness_AttentionSample :
    (watching .active .idle 0).LevelMet 9 0x0010 ∧ ¬ (watching .active .idle 0).LevelMet 9 0 ∧
      ((watching .active .idle 0).setDescriptor 9
        { Descriptor.reset 9 with state := .active, attnInput := some 4, attnSense := .rising }).EdgeMet 9 0x0010 ∧
      ¬ (watching .active .idle 0).EdgeMet 9 0x0010 ∧
      ((watching .active .idle 0).setAttn 9 ⟨.pending, none, 255⟩).attn[(9 : EndpointId)].state ≠ .idle := by
  refine ⟨⟨4, rfl, .inl ⟨rfl, by decide⟩⟩, ?_, ⟨4, 0, rfl, rfl, .inl ⟨rfl, by decide, by decide⟩⟩, ?_,
    by decide +kernel⟩
  · unfold State.LevelMet
    decide +kernel
  · rintro ⟨n, before, -, -, ⟨h, -⟩ | ⟨h, -⟩⟩
    · exact absurd h (by decide +kernel)
    · exact absurd h (by decide +kernel)

/-- The part with the link UP meets every law, and an ACK waits to be sent. -/
def lawful : State := { up with pending := [.ack] }

theorem witness_WindowLawKept : lawful.windowLaw ∧ gives (step lawful) (fun _ => true) = true := by
  refine ⟨?_, by decide +kernel⟩
  unfold State.windowLaw WindowEntry.lawful
  decide +kernel

theorem witness_LinkLawKept : lawful.linkLaw ∧ gives (step lawful) (fun _ => true) = true := by
  refine ⟨⟨⟨by decide, rfl⟩, ?_, ?_, by decide⟩, by decide +kernel⟩
  · unfold LinkPort.stateLaw
    decide +kernel
  · unfold State.ackLaw
    decide +kernel

theorem witness_LaneLawKept : lawful.laneLaw := by
  refine ⟨fun l => ?_, by decide +kernel⟩
  have all_idle : ∀ l : LaneId, lawful.engines[l] = Engine.reset := by decide +kernel
  unfold State.engineLawful
  rw [all_idle l, if_neg (by decide)]
  rfl

theorem witness_AttentionNoticeAndManagementLawsKept :
    lawful.attnLaw ∧ lawful.noticeLaw ∧ lawful.managementLaw := by
  unfold State.attnLaw State.noticeLaw State.managementLaw
  decide +kernel

theorem lawful_slots : lawful.slotLaw := by
  refine ⟨?_, ?_, ?_, ?_⟩
  · unfold State.collectionLaw
    decide +kernel
  · intro l i h
    have none_in_hand : ∀ l : LaneId, lawful.engines[l].currentSlot = none := by decide +kernel
    rw [none_in_hand l] at h
    exact absurd h (by simp)
  · have no_blocks : ∀ i : SlotId, lawful.slots[i].blocks = [] := by decide +kernel
    refine ⟨by decide +kernel, fun i => by rw [no_blocks i]; exact List.nodup_nil, fun i _ => no_blocks i,
      fun i b hb => ?_, fun b => .inl (List.mem_finRange b)⟩
    rw [no_blocks i] at hb
    exact absurd hb List.not_mem_nil
  · unfold State.creditLaw
    decide +kernel

theorem witness_LawsKeptAndNoFault : lawful.law :=
  ⟨witness_WindowLawKept.1, witness_LinkLawKept.1, witness_LaneLawKept,
    witness_AttentionNoticeAndManagementLawsKept.1, witness_AttentionNoticeAndManagementLawsKept.2.1,
    witness_AttentionNoticeAndManagementLawsKept.2.2, lawful_slots, by unfold State.queueLaw; decide +kernel⟩

end Sys2Proof.Tests
end

section
/-! PROOFS. Fields of a word (chapter 11): which bits `fieldAt` sets, what is read back from a word of fields, and when
a word is fields written side by side. -/

namespace Sys2Proof.Machine

/-- The bits of a field. -/
@[simp] theorem getLsbD_fieldAt (a w v i : Nat) : (fieldAt a w v).getLsbD i =
    (decide (i < 32) && (decide (a ≤ i) && (decide (i - a < w) && v.testBit (i - a)))) := by
  simp only [fieldAt, BitVec.getLsbD_ofNat, Nat.testBit_mul_two_pow, Nat.testBit_mod_two_pow]

/-- The bits of a flag. -/
@[simp] theorem getLsbD_flagAt (a i : Nat) (b : Bool) : (flagAt a b).getLsbD i =
    (decide (i < 32) && (decide (i = a) && b)) := by
  rw [flagAt, getLsbD_fieldAt]
  rcases lt_trichotomy i a with h | rfl | h
  · simp [not_le.mpr h, h.ne]
  · cases b <;> simp
  · simp [h.ne', Nat.sub_eq_zero_iff_le, not_le.mpr h]

/-- A field read back from its own place. -/
@[simp] theorem extractLsb'_fieldAt_same {a w : Nat} (h : a + w ≤ 32) (v : Nat) :
    (fieldAt a w v).extractLsb' a w = BitVec.ofNat w v := by
  apply BitVec.eq_of_getLsbD_eq
  intro i hi
  have : a + i < 32 := by omega
  simp only [BitVec.getLsbD_extractLsb', getLsbD_fieldAt, BitVec.getLsbD_ofNat]
  simp [hi, this]

/-- A field read at a place it does not touch. -/
@[simp] theorem extractLsb'_fieldAt_apart {a w b n : Nat} (h : a + w ≤ b ∨ b + n ≤ a) (v : Nat) :
    (fieldAt a w v).extractLsb' b n = 0 := by
  apply BitVec.eq_of_getLsbD_eq
  intro i hi
  have : ¬ (a ≤ b + i ∧ b + i - a < w) := by omega
  simp only [BitVec.getLsbD_extractLsb', getLsbD_fieldAt, BitVec.ofNat_eq_ofNat, BitVec.getLsbD_zero,
    Bool.and_eq_false_iff, decide_eq_false_iff_not]
  tauto

/-- A flag read back from its own place. -/
@[simp] theorem extractLsb'_flagAt_same {a : Nat} (h : a < 32) (b : Bool) :
    (flagAt a b).extractLsb' a 1 = BitVec.ofBool b := by
  rw [flagAt, extractLsb'_fieldAt_same h]
  cases b <;> rfl

/-- A flag read at a place it does not touch. -/
@[simp] theorem extractLsb'_flagAt_apart {a b n : Nat} (h : a < b ∨ b + n ≤ a) (v : Bool) :
    (flagAt a v).extractLsb' b n = 0 :=
  extractLsb'_fieldAt_apart h _

/-- The field `x` stands in `w` from bit `a` up. -/
def HasField {k n : Nat} (w : BitVec k) (a : Nat) (x : BitVec n) : Prop := w.extractLsb' a n = x

/-- A word is the field that stands over all its bits. -/
theorem eq_of_hasField {n : Nat} {w x : BitVec n} (h : HasField w 0 x) : w = x := by
  rwa [HasField, BitVec.extractLsb'_eq_self] at h

/-- Two fields that stand side by side. -/
theorem hasField_append {k a m n : Nat} {w : BitVec k} {x : BitVec m} {y : BitVec n} (hx : HasField w (a + n) x)
    (hy : HasField w a y) : HasField w a (x ++ y) := by
  unfold HasField at *
  rw [← BitVec.extractLsb'_append_extractLsb'_eq_extractLsb' rfl, hx, hy]

end Sys2Proof.Machine
end

section
/-! PROOFS. Management words as read (chapters 10 and 11): where each region of management space lies, and every word of
the Window Table, the Endpoint Table and the slot view as its fields side by side. -/

namespace Sys2Proof.Machine

/-! ### The regions of management space (R161) -/

/-- A staging word (R161, R177). -/
theorem readWord_staging (s : State) (k : Fin 8) : s.readWord (0x040 + k.val) = s.staging[k] := by
  have hk := k.isLt
  simp (disch := omega) only [State.readWord, controlWord, commandWord, acknowledgeWord, if_neg]
  rw [dif_pos (by omega)]
  simp

/-- A word of a window entry (R161). -/
theorem readWord_window (s : State) (w : WindowId) {k : Nat} (hk : k < 8) :
    s.readWord (0x100 + 8 * w.val + k) = s.windows[w].word k := by
  have hw := w.isLt
  have hrow : (0x100 + 8 * w.val + k - 0x100) / 8 = w.val := by omega
  have hcol : (0x100 + 8 * w.val + k - 0x100) % 8 = k := by omega
  simp (disch := omega) only [State.readWord, controlWord, commandWord, acknowledgeWord, if_neg, dif_neg, hcol, hrow]
  rw [dif_pos (by omega)]
  rfl

/-- A word of a descriptor (R161). -/
theorem readWord_descriptor (s : State) (e : EndpointId) {k : Nat} (hk : k < 16) :
    s.readWord (0x200 + 16 * e.val + k) = s.descriptorWord e k := by
  have he := e.isLt
  have hrow : (0x200 + 16 * e.val + k - 0x200) / 16 = e.val := by omega
  have hcol : (0x200 + 16 * e.val + k - 0x200) % 16 = k := by omega
  simp (disch := omega) only [State.readWord, controlWord, commandWord, acknowledgeWord, if_neg, dif_neg, hcol, hrow]
  rw [dif_pos (by omega)]

/-- A word of a slot's view (R161, R172). -/
theorem readWord_slotView (s : State) (i : SlotId) {k : Nat} (hk : k < 4) :
    s.readWord (0x300 + 4 * i.val + k) = s.slotViewWord i k := by
  have hi := i.isLt
  have hrow : (0x300 + 4 * i.val + k - 0x300) / 4 = i.val := by omega
  have hcol : (0x300 + 4 * i.val + k - 0x300) % 4 = k := by omega
  simp (disch := omega) only [State.readWord, controlWord, commandWord, acknowledgeWord, if_neg, dif_neg, hcol, hrow]
  rw [dif_pos (by omega)]

/-- A word of no region reads as zero (R161). -/
theorem readWord_of_no_region (s : State) {i : Nat}
    (h : 1 ≤ i ∧ i ≤ 3 ∨ 5 ≤ i ∧ i ≤ 7 ∨ 9 ≤ i ∧ i ≤ 0xB ∨ 0xD ≤ i ∧ i ≤ 0xF ∨ 0x15 ≤ i ∧ i ≤ 0x3F ∨
      0x48 ≤ i ∧ i ≤ 0xFF) : s.readWord i = 0 := by
  simp (disch := omega) only [State.readWord, controlWord, commandWord, acknowledgeWord, if_neg, dif_neg]

/-! ### Window entries (chapter 11.3) -/

/-- Word 1: valid, endpoint, kind and sizeLog (R177). -/
theorem windowWord_one (x : WindowEntry) : x.word 1 =
    BitVec.ofBool x.valid ++ 0#7 ++ BitVec.ofNat 8 x.endpoint.val ++ 0#6 ++ BitVec.ofNat 2 x.kind.code ++ 0#3 ++
      x.sizeLog := by
  apply eq_of_hasField
  repeat' apply hasField_append
  all_goals simp (disch := omega) [HasField, WindowEntry.word, BitVec.extractLsb'_or]

/-- Word 2: what the window allows, and posted (R177). -/
theorem windowWord_two (x : WindowEntry) : x.word 2 =
    0#28 ++ BitVec.ofBool x.posted ++ BitVec.ofBool x.privilegedOnly ++ BitVec.ofBool x.writeAllowed ++
      BitVec.ofBool x.readAllowed := by
  apply eq_of_hasField
  repeat' apply hasField_append
  all_goals simp (disch := omega) [HasField, WindowEntry.word, BitVec.extractLsb'_or]

/-- The byte of an optional command, zero bits when it is absent (assumption 19). -/
@[simp] theorem ofNat_getD_map_toNat (c : Option Byte) : BitVec.ofNat 8 ((c.map BitVec.toNat).getD 0) = c.getD 0 := by
  cases c <;> simp

/-- Word 3: the two command bytes with their present flags (R177, assumption 19). -/
theorem windowWord_three (x : WindowEntry) : x.word 3 =
    0#7 ++ BitVec.ofBool x.writeCmd.isSome ++ x.writeCmd.getD 0 ++ 0#7 ++ BitVec.ofBool x.readCmd.isSome ++
      x.readCmd.getD 0 := by
  apply eq_of_hasField
  repeat' apply hasField_append
  all_goals simp (disch := omega) [HasField, WindowEntry.word, optAt, BitVec.extractLsb'_or]

/-- Word 4: dummy and addrWidth (R177). -/
theorem windowWord_four (x : WindowEntry) : x.word 4 = 0#20 ++ x.dummy ++ 0#5 ++ x.addrWidth := by
  apply eq_of_hasField
  repeat' apply hasField_append
  all_goals simp (disch := omega) [HasField, WindowEntry.word, BitVec.extractLsb'_or]

/-! ### Descriptors (chapter 11.4) -/

/-- Word 0: outstanding, drainAfterResume, haltCause and state (R23). -/
theorem descriptorWord_zero (s : State) (e : EndpointId) : s.descriptorWord e 0 =
    0#11 ++ BitVec.ofNat 5 (s.queues[e].length + s.completions[e].length) ++ 0#6 ++
      BitVec.ofBool s.endpoints[e].drainAfterResume ++
      BitVec.ofBool (decide (s.endpoints[e].haltCause = .readyTimeout)) ++ 0#5 ++
      BitVec.ofNat 3 s.endpoints[e].state.code := by
  apply eq_of_hasField
  repeat' apply hasField_append
  all_goals simp (disch := omega) [HasField, State.descriptorWord, State.outstanding, BitVec.extractLsb'_or]

/-- A choice of two codes in its two bits. -/
theorem ofNat_toNat_decide (p : Prop) [Decidable p] :
    BitVec.ofNat 2 (decide p).toNat = if p then 1#2 else 0#2 := by
  split <;> simp [*]

/-- Word 2: the fields locked while the endpoint is not DISABLED, but clockDiv (R23, R178). -/
theorem descriptorWord_two (s : State) (e : EndpointId) : s.descriptorWord e 2 =
    0#4 ++ s.endpoints[e].sampleDelay ++ 0#2 ++ s.endpoints[e].wordSize ++
      (if s.endpoints[e].readyMode = .wait then 1#2 else 0#2) ++
      (if s.endpoints[e].bitOrder = .lsbFirst then 1#2 else 0#2) ++ 0#2 ++ s.endpoints[e].clockMode ++ 0#2 ++
      BitVec.ofNat 2 s.endpoints[e].select.val ++ 0#2 ++ BitVec.ofNat 2 s.endpoints[e].lane.val := by
  apply eq_of_hasField
  repeat' apply hasField_append
  all_goals simp (disch := omega) [HasField, State.descriptorWord, ofNat_toNat_decide, BitVec.extractLsb'_or]

/-- Word 3: clockDiv (R23, R178). -/
theorem descriptorWord_three (s : State) (e : EndpointId) :
    s.descriptorWord e 3 = 0#24 ++ s.endpoints[e].clockDiv := by
  apply eq_of_hasField
  repeat' apply hasField_append
  all_goals simp (disch := omega) [HasField, State.descriptorWord]

/-- Word 4: readyTimeout, maxOutstanding and gapBits (R23, R178). -/
theorem descriptorWord_four (s : State) (e : EndpointId) : s.descriptorWord e 4 =
    0#4 ++ s.endpoints[e].readyTimeout ++ 0#3 ++ s.endpoints[e].maxOutstanding ++ s.endpoints[e].gapBits := by
  apply eq_of_hasField
  repeat' apply hasField_append
  all_goals simp (disch := omega) [HasField, State.descriptorWord, BitVec.extractLsb'_or]

/-- Word 6: attnSense and attnInput (R23, R178). -/
theorem descriptorWord_six (s : State) (e : EndpointId) : s.descriptorWord e 6 =
    0#22 ++ BitVec.ofNat 2 s.endpoints[e].attnSense.code ++ 0#3 ++
      BitVec.ofNat 5 (s.endpoints[e].attnInput.elim 31 Fin.val) := by
  apply eq_of_hasField
  repeat' apply hasField_append
  all_goals simp (disch := omega) [HasField, State.descriptorWord, BitVec.extractLsb'_or]

/-- The words of a descriptor past word 6 hold no field. -/
theorem descriptorWord_of_no_field (s : State) (e : EndpointId) {k : Nat} (h : 7 ≤ k) : s.descriptorWord e k = 0 := by
  obtain ⟨j, rfl⟩ := Nat.exists_eq_add_of_le' h
  rfl

/-! ### Writing a descriptor's words back (R178) -/

/-- The code of a bit order names it (chapter 11.4). -/
theorem bitOrder_of_code (x : BitOrder) :
    (if BitVec.ofNat 2 (decide (x = .lsbFirst)).toNat = 0#2 then .msbFirst else .lsbFirst : BitOrder) = x := by
  cases x <;> rfl

/-- The code of a ready mode names it (chapter 11.4). -/
theorem readyMode_of_code (x : ReadyMode) :
    (if BitVec.ofNat 2 (decide (x = .wait)).toNat = 0#2 then .none else .wait : ReadyMode) = x := by
  cases x <;> rfl

/-- The five bits of attnInput name it, or NONE (chapter 11.4). -/
theorem attnInputOfCode_of_toNat {c : BitVec 5} {n : Option (Fin 16)} (h : c.toNat = n.elim 31 Fin.val) :
    attnInputOfCode c = n := by
  cases n with
  | none => simp only [Option.elim] at h; simp [attnInputOfCode, h]
  | some n => simp only [Option.elim] at h; simp [attnInputOfCode, h]

/-- The two bits of attnSense name it (chapter 11.4). -/
theorem attnSenseOfCode_of_toNat {c : BitVec 2} {x : AttnSense} (h : c.toNat = x.code) : attnSenseOfCode c = x := by
  revert c
  cases x <;> decide

/-- What the locked and writable words of a descriptor read as, written back, changes no field (R178). -/
theorem writeWord_descriptorWord (s : State) (e : EndpointId) {k : Nat} (h2 : 2 ≤ k) (h6 : k ≤ 6) :
    s.endpoints[e].writeWord k (s.descriptorWord e k) = s.endpoints[e] := by
  generalize hd : s.endpoints[e] = d
  have input : attnInputOfCode (BitVec.ofNat 5 (d.attnInput.elim 31 Fin.val)) = d.attnInput :=
    attnInputOfCode_of_toNat (by cases d.attnInput <;> simp; omega)
  have sense : attnSenseOfCode (BitVec.ofNat 2 d.attnSense.code) = d.attnSense :=
    attnSenseOfCode_of_toNat (by cases d.attnSense <;> rfl)
  obtain rfl | rfl | rfl | rfl | rfl : k = 2 ∨ k = 3 ∨ k = 4 ∨ k = 5 ∨ k = 6 := by omega
  · simp (disch := omega) [Descriptor.writeWord, State.descriptorWord, hd, BitVec.extractLsb'_or,
      bitOrder_of_code, readyMode_of_code]
  · simp (disch := omega) [Descriptor.writeWord, State.descriptorWord, hd]
  · simp (disch := omega) [Descriptor.writeWord, State.descriptorWord, hd, BitVec.extractLsb'_or]
  · simp (disch := omega) [Descriptor.writeWord, State.descriptorWord, hd]
  · simp (disch := omega) [Descriptor.writeWord, State.descriptorWord, hd, BitVec.extractLsb'_or, input, sense]

/-! ### The slot view (R172, chapter 11.5) -/

/-- Word 0 of a slot's view: its record and its collection (R172). -/
theorem slotViewWord_zero (s : State) (i : SlotId) : s.slotViewWord i 0 =
    BitVec.ofNat 4 (s.slots[i].status.elim 15 MemStatus.code) ++ BitVec.ofBool s.slots[i].translation.isSome ++
      BitVec.ofBool s.slots[i].posted ++ BitVec.ofBool (decide (s.slots[i].direction = .write)) ++
      BitVec.ofBool (decide (s.slots[i].cls = .privileged)) ++ s.slots[i].length ++ s.slots[i].tag ++
      BitVec.ofNat 4 (s.collectionOf i).2 ++ BitVec.ofNat 2 (s.collectionOf i).1 ++
      BitVec.ofNat 2 s.slots[i].state.code := by
  apply eq_of_hasField
  repeat' apply hasField_append
  all_goals simp (disch := omega) [HasField, State.slotViewWord, BitVec.extractLsb'_or]

/-- Word 1 of a slot's view: its translation, its number of blocks and beatsDone (R172). -/
theorem slotViewWord_one (s : State) (i : SlotId) : s.slotViewWord i 1 =
    0#4 ++ BitVec.ofNat 4 (s.slots[i].translation.elim 0 fun t => t.endpoint.val) ++ 0#3 ++
      BitVec.ofNat 5 (s.slots[i].translation.elim 0 fun t => t.window.val) ++ 0#4 ++
      BitVec.ofNat 4 s.slots[i].blocks.length ++ 0#1 ++ BitVec.ofNat 7 s.slots[i].beatsDone := by
  apply eq_of_hasField
  repeat' apply hasField_append
  all_goals simp (disch := omega) [HasField, State.slotViewWord, BitVec.extractLsb'_or]

/-- Four block numbers side by side, the first of them lowest (chapter 11.5). -/
theorem blockWord_eq (sl : Slot) (k : Nat) : sl.blockWord k =
    BitVec.ofNat 8 (sl.blockAt (k + 3)) ++ BitVec.ofNat 8 (sl.blockAt (k + 2)) ++ BitVec.ofNat 8 (sl.blockAt (k + 1)) ++
      BitVec.ofNat 8 (sl.blockAt k) := by
  apply eq_of_hasField
  repeat' apply hasField_append
  all_goals simp (disch := omega) [HasField, Slot.blockWord, BitVec.extractLsb'_or]

/-- A search for the only place with a property finds it. -/
theorem find?_finRange_of_unique {n : Nat} {p : Fin n → Bool} {i : Fin n} (hi : p i = true)
    (huniq : ∀ j, p j = true → j = i) : (List.finRange n).find? p = some i := by
  cases h : (List.finRange n).find? p with
  | none => exact absurd hi (by simpa using List.find?_eq_none.mp h i (List.mem_finRange i))
  | some j => rw [huniq j (List.find?_some h)]

/-- A search for a place without the property finds none. -/
theorem find?_finRange_eq_none {n : Nat} {p : Fin n → Bool} (h : ∀ j, p j = false) : (List.finRange n).find? p = none :=
  List.find?_eq_none.mpr fun j _ => by simp [h j]

/-- A slot of the immediate list (R43, R172). -/
theorem collectionOf_immediate {s : State} {i : SlotId} (h : i ∈ s.immediate) : s.collectionOf i = (3, 0) := by
  simp [State.collectionOf, h]

/-- A slot of one endpoint's queue (R43, R172). -/
theorem collectionOf_queue {s : State} {i : SlotId} {e : EndpointId} (hi : i ∉ s.immediate) (hq : i ∈ s.queues[e])
    (huniq : ∀ f : EndpointId, i ∈ s.queues[f] → f = e) : s.collectionOf i = (1, e.val) := by
  have found : (List.finRange 16).find? (fun f => decide (i ∈ s.queues[f])) = some e :=
    find?_finRange_of_unique (by simpa using hq) fun f hf => huniq f (by simpa using hf)
  simp only [State.collectionOf, if_neg hi, found]

/-- A slot of one endpoint's completion list (R43, R172). -/
theorem collectionOf_completion {s : State} {i : SlotId} {e : EndpointId} (hi : i ∉ s.immediate)
    (hq : ∀ f : EndpointId, i ∉ s.queues[f]) (hc : i ∈ s.completions[e])
    (huniq : ∀ f : EndpointId, i ∈ s.completions[f] → f = e) : s.collectionOf i = (2, e.val) := by
  have none_queued : (List.finRange 16).find? (fun f => decide (i ∈ s.queues[f])) = none :=
    find?_finRange_eq_none fun f => decide_eq_false (hq f)
  have found : (List.finRange 16).find? (fun f => decide (i ∈ s.completions[f])) = some e :=
    find?_finRange_of_unique (by simpa using hc) fun f hf => huniq f (by simpa using hf)
  simp only [State.collectionOf, if_neg hi, none_queued, found]

/-- A slot in no list is in the free pool (R43, R172). -/
theorem collectionOf_free {s : State} {i : SlotId} (hi : i ∉ s.immediate)
    (h : ∀ f : EndpointId, i ∉ s.queues[f] ∧ i ∉ s.completions[f]) : s.collectionOf i = (0, 0) := by
  have none_queued : (List.finRange 16).find? (fun f => decide (i ∈ s.queues[f])) = none :=
    find?_finRange_eq_none fun f => decide_eq_false (h f).1
  have none_complete : (List.finRange 16).find? (fun f => decide (i ∈ s.completions[f])) = none :=
    find?_finRange_eq_none fun f => decide_eq_false (h f).2
  simp only [State.collectionOf, if_neg hi, none_queued, none_complete]

/-! ### Single words (R115, R167, R168, R173) -/

/-- The command word reads as the last-command record (R168). -/
theorem lastCommand_word (c : LastCommand) :
    c.word = c.code ++ 0#4 ++ BitVec.ofNat 4 c.status.code ++ 0#8 ++ c.index := by
  apply eq_of_hasField
  repeat' apply hasField_append
  all_goals simp (disch := omega) [HasField, LastCommand.word, BitVec.extractLsb'_or]

/-- A narrow value alone in a word has zeros above it. -/
theorem setWidth_eq_zero_append {m n : Nat} (x : BitVec n) : x.setWidth (m + n) = 0#m ++ x := by
  apply BitVec.eq_of_toNat_eq
  have : x.toNat < 2 ^ (m + n) := lt_of_lt_of_le x.isLt (Nat.pow_le_pow_right (by omega) (by omega))
  simp [BitVec.toNat_append, Nat.mod_eq_of_lt this]

/-- A counter's word (R173). -/
theorem counterWord_eq (c : BitVec 16) : counterWord c = 0#16 ++ c := setWidth_eq_zero_append (m := 16) c

/-- The identity word holds the device code over twelve zero bits (R167). -/
theorem identityWord_fields :
    identityWord.extractLsb' 16 16 = 0x4160#16 ∧ identityWord.extractLsb' 4 12 = 0#12 := by
  unfold identityWord Config.deviceCode
  generalize Config.siliconRevision = r
  constructor
  · have above : BitVec.extractLsb' 16 16 (0x4160#16 ++ 0#12 ++ r) = BitVec.extractLsb' 12 16 (0x4160#16 ++ 0#12) :=
      BitVec.extractLsb'_append_eq_of_le (by omega)
    exact above.trans (by decide)
  · have above : BitVec.extractLsb' 4 12 (0x4160#16 ++ 0#12 ++ r) = BitVec.extractLsb' 0 12 (0x4160#16 ++ 0#12) :=
      BitVec.extractLsb'_append_eq_of_le (by omega)
    exact above.trans (by decide)

/-- The bits of two flags for each of a list of places, joined into a word. -/
theorem getLsbD_foldl_or (l : List EndpointId) (f g : EndpointId → Word) (acc : Word) (j : Nat) :
    (l.foldl (fun acc e => acc ||| f e ||| g e) acc).getLsbD j =
      (acc.getLsbD j || l.any fun e => (f e).getLsbD j || (g e).getLsbD j) := by
  induction l generalizing acc with
  | nil => simp
  | cons e l ih => simp [ih, Bool.or_assoc]

/-- Bit e of the acknowledge word says that endpoint e's record is PENDING, bit 16 + e that it is SENT (R115). -/
theorem acknowledgeWordRead_bits (s : State) (e : EndpointId) :
    (s.acknowledgeWordRead.getLsbD e.val = true ↔ s.attn[e].state = .pending) ∧
      (s.acknowledgeWordRead.getLsbD (16 + e.val) = true ↔ s.attn[e].state = .sent) := by
  have he := e.isLt
  unfold State.acknowledgeWordRead
  have pending_at (d : EndpointId) : 16 + e.val ≠ d.val := by omega
  have sent_at (d : EndpointId) : e.val ≠ 16 + d.val := by omega
  simp only [getLsbD_foldl_or, getLsbD_flagAt]
  constructor
  · have : e.val < 32 := by omega
    simp [sent_at, this, Fin.val_inj]
  · have : 16 + e.val < 32 := by omega
    simp [pending_at, this, Fin.val_inj]

end Sys2Proof.Machine
end

section
/-! PROOFS. O25: the words of management space. -/

namespace Sys2Proof.Proofs

open Sys2Proof.Machine

/-- Settles O25, region by region: each word is found in its region and reads as its fields side by side. -/
theorem managementWords : Obligations.ManagementWords := by
  obtain ⟨device_code, zero_bits⟩ := identityWord_fields
  refine ⟨fun s => ⟨device_code, zero_bits, setWidth_eq_zero_append (m := 24) s.link.replayTimeout, lastCommand_word _,
    acknowledgeWordRead_bits s, counterWord_eq _, counterWord_eq _, counterWord_eq _,
    counterWord_eq _, counterWord_eq _, readWord_staging s, fun i => readWord_of_no_region s, fun w => ?_, fun e => ?_,
    fun i => ?_⟩, ⟨rfl, rfl, rfl, rfl, rfl, rfl⟩, fun s e k h2 h6 => writeWord_descriptorWord s e h2 h6⟩
  · have word {k : Nat} (hk : k < 8) := readWord_window s w hk
    exact ⟨word (k := 0) (by omega), (word (by omega)).trans (windowWord_one _),
      (word (by omega)).trans (windowWord_two _), (word (by omega)).trans (windowWord_three _),
      (word (by omega)).trans (windowWord_four _), word (k := 5) (by omega), word (k := 6) (by omega),
      word (k := 7) (by omega)⟩
  · have word {k : Nat} (hk : k < 16) := readWord_descriptor s e hk
    exact ⟨(word (k := 0) (by omega)).trans (descriptorWord_zero s e), word (k := 1) (by omega),
      (word (by omega)).trans (descriptorWord_two s e), (word (by omega)).trans (descriptorWord_three s e),
      (word (by omega)).trans (descriptorWord_four s e), word (k := 5) (by omega),
      (word (by omega)).trans (descriptorWord_six s e),
      fun k h7 h15 => (word (by omega)).trans (descriptorWord_of_no_field s e h7)⟩
  · have word {k : Nat} (hk : k < 4) := readWord_slotView s i hk
    refine ⟨⟨_, _, (word (k := 0) (by omega)).trans (slotViewWord_zero s i), fun hi => ?_, fun e hi hq huniq => ?_,
      fun e hi hq hc huniq => ?_, fun hi hno => ?_⟩, (word (by omega)).trans (slotViewWord_one s i),
      (word (by omega)).trans (blockWord_eq _ 0), (word (by omega)).trans (blockWord_eq _ 4)⟩
    · simp [collectionOf_immediate hi]
    · simp [collectionOf_queue hi hq huniq]
    · simp [collectionOf_completion hi hq hc huniq]
    · simp [collectionOf_free hi hno]

end Sys2Proof.Proofs
end

section
/-! PROOFS. Taking a command of the Management Unit, once for all commands (R162, R165, R168). -/

namespace Sys2Proof.Machine

/-- A write to the command word with a code is taken as the command of that code (R168). -/
theorem isCommand_of_commands {r : CfgRequest} {code : Byte} (h : r.Commands code) : isCommand code r = true := by
  obtain ⟨hd, hl, hs, hc⟩ := h
  simp [isCommand, CfgRequest.isSingleWrite, CfgRequest.commandCode, commandWord, hd, hl, hs, hc]

/-- A command performed on a request that the Management Unit can take: its own effects, the reply at the tail of the
reply list, and the last-command record replaced (R162, R165, R168). -/
theorem takeCommand_of_commands {s u : State} {r : CfgRequest} {rest : List CfgRequest} {code : Byte}
    {perform : Byte → State → CfgStatus × State} {status : CfgStatus} (ht : s.TakesCfg r rest) (hc : r.Commands code)
    (hp : r.cls = .privileged)
    (hu : perform (r.word0.extractLsb' 0 8) { s with cfgHanded := rest } = (status, u)) :
    unlessHeld s (takeCommand s code perform) = .next { u with
      replies := u.replies ++ [⟨r.tag, status, if status = .ok then none else some 0, []⟩]
      lastCommand := ⟨r.word0.extractLsb' 24 8, r.word0.extractLsb' 0 8, status⟩ } := by
  obtain ⟨hs, hr, hl⟩ := ht
  have hcode : r.commandCode = r.word0.extractLsb' 24 8 := rfl
  have hindex : r.commandIndex = r.word0.extractLsb' 0 8 := rfl
  rw [unlessHeld_of_high hs, takeCommand, takeCfg_of_taken hr (isCommand_of_commands hc) hl,
    commandAct_of_privileged hp, hindex, hu, hcode]
  rfl

/-- A window command whose index names window `w` acts on `w` (R168). -/
theorem onWindow_of_index {f : WindowId → State → CfgStatus × State} {index : Byte} {w : WindowId}
    (h : index.toNat = w.val) (s : State) : onWindow f index s = f w s := by
  have hw : index.toNat < 32 := h ▸ w.isLt
  have : (⟨index.toNat, hw⟩ : WindowId) = w := Fin.ext h
  rw [onWindow, dif_pos hw, this]

/-- A window command that the Management Unit can take, acting on the window its index names (R162, R165, R168). -/
theorem takeWindowCommand {s u : State} {r : CfgRequest} {rest : List CfgRequest} {code : Byte} {w : WindowId}
    {f : WindowId → State → CfgStatus × State} {status : CfgStatus} (ht : s.TakesCfg r rest) (hc : r.Commands code)
    (hp : r.cls = .privileged) (hw : (r.word0.extractLsb' 0 8).toNat = w.val)
    (hf : f w { s with cfgHanded := rest } = (status, u)) :
    unlessHeld s (takeCommand s code (onWindow f)) = .next { u with
      replies := u.replies ++ [⟨r.tag, status, if status = .ok then none else some 0, []⟩]
      lastCommand := ⟨r.word0.extractLsb' 24 8, r.word0.extractLsb' 0 8, status⟩ } :=
  takeCommand_of_commands ht hc hp ((onWindow_of_index hw _).trans hf)

/-- COMMIT-WINDOW taken (R12, R168). -/
theorem execCommitWindow_of_taken {s u : State} {r : CfgRequest} {rest : List CfgRequest} {w : WindowId}
    {status : CfgStatus} (ht : s.TakesCfg r rest) (hc : r.Commands codeCommitWindow) (hp : r.cls = .privileged)
    (hw : (r.word0.extractLsb' 0 8).toNat = w.val)
    (hf : commitWindow w { s with cfgHanded := rest } = (status, u)) :
    exec .commitWindow s = .next { u with
      replies := u.replies ++ [⟨r.tag, status, if status = .ok then none else some 0, []⟩]
      lastCommand := ⟨r.word0.extractLsb' 24 8, r.word0.extractLsb' 0 8, status⟩ } :=
  takeWindowCommand ht hc hp hw hf

/-- CLEAR-WINDOW taken (R15, R168). -/
theorem execClearWindow_of_taken {s : State} {r : CfgRequest} {rest : List CfgRequest} {w : WindowId}
    (ht : s.TakesCfg r rest) (hc : r.Commands codeClearWindow) (hp : r.cls = .privileged)
    (hw : (r.word0.extractLsb' 0 8).toNat = w.val) :
    exec .clearWindow s = .next { s.afterCommand r rest .ok with
      windows := s.windows.set w { s.windows[w] with valid := false } } :=
  takeWindowCommand (f := clearWindow) ht hc hp hw rfl

/-- FETCH-WINDOW taken (R16, R168). -/
theorem execFetchWindow_of_taken {s : State} {r : CfgRequest} {rest : List CfgRequest} {w : WindowId}
    (ht : s.TakesCfg r rest) (hc : r.Commands codeFetchWindow) (hp : r.cls = .privileged)
    (hw : (r.word0.extractLsb' 0 8).toNat = w.val) :
    exec .fetchWindow s = .next { s.afterCommand r rest .ok with
      staging := tabulate fun k => ({ s.windows[w] with valid := false } : WindowEntry).word k.val } :=
  takeWindowCommand (f := fetchWindow) ht hc hp hw rfl

/-- A window command does nothing, or acts on the window its index names (R168). -/
theorem onWindow_cases (f : WindowId → State → CfgStatus × State) (index : Byte) (s : State) :
    onWindow f index s = (.range, s) ∨ ∃ w : WindowId, onWindow f index s = f w s := by
  unfold onWindow
  split
  · exact .inr ⟨_, rfl⟩
  · exact .inl rfl

end Sys2Proof.Machine
end

section
/-! PROOFS. The Window Table (chapter 1): ranges that meet, the checks of COMMIT-WINDOW as the manual lists them, and
the window law under a change of one entry. -/

namespace Sys2Proof.Machine

/-! ### Ranges -/

/-- A range ends no lower than it begins. -/
theorem base_le_lastOfRange (base : Word) (sizeLog : BitVec 5) : base.toNat ≤ lastOfRange base sizeLog := by
  have : 0 < 2 ^ sizeLog.toNat := by positivity
  unfold lastOfRange
  omega

/-- Two ranges meet when an address lies in both (R14). -/
theorem rangesMeet_iff (b1 b2 : Word) (n1 n2 : BitVec 5) : rangesMeet b1 n1 b2 n2 = true ↔
    ∃ a : Nat, (b1.toNat ≤ a ∧ a ≤ lastOfRange b1 n1) ∧ (b2.toNat ≤ a ∧ a ≤ lastOfRange b2 n2) := by
  have h1 := base_le_lastOfRange b1 n1
  have h2 := base_le_lastOfRange b2 n2
  simp only [rangesMeet, Bool.and_eq_true, decide_eq_true_eq]
  constructor
  · rintro ⟨h12, h21⟩
    exact ⟨max b1.toNat b2.toNat, by omega, by omega⟩
  · rintro ⟨a, ⟨_, _⟩, _, _⟩
    omega

/-- Meeting is symmetric (R14). -/
theorem rangesMeet_comm (b1 b2 : Word) (n1 n2 : BitVec 5) : rangesMeet b1 n1 b2 n2 = rangesMeet b2 n2 b1 n1 := by
  simp only [rangesMeet, Bool.and_comm]

/-- The overlap check finds a valid entry other than `w` that shares an address with the staged range (R14). -/
theorem overlapsOther_iff (s : State) (w : WindowId) (f : StagedFields) :
    s.overlapsOther w f.base f.sizeLog = true ↔ s.Overlaps w f := by
  simp only [State.overlapsOther, State.Overlaps, List.any_eq_true, List.mem_finRange, true_and, Bool.and_eq_true,
    decide_eq_true_eq, rangesMeet_iff, lastOfRange, and_assoc, exists_and_left]

/-- An entry that contains an address is valid (R3). -/
theorem valid_of_contains {x : WindowEntry} {a : Word} (h : x.contains a = true) : x.valid = true := by
  simp only [WindowEntry.contains, Bool.and_eq_true] at h
  exact h.1.1

/-- A lookup finds only valid entries (R3). -/
theorem valid_of_lookup {s : State} {a : Word} {w : WindowId} (h : s.lookup a = some w) : s.windows[w].valid = true :=
  valid_of_contains (List.find?_some (p := fun w : WindowId => s.windows[w].contains a) h)

/-! ### The checks of COMMIT-WINDOW -/

/-- A kind's code names that kind and no other (R177). -/
theorem windowKindOfCode_eq_some (c : BitVec 2) (kind : WindowKind) :
    windowKindOfCode c = some kind ↔ c = BitVec.ofNat 2 kind.code := by
  revert c
  cases kind <;> decide

/-- The fit check on a kind with an address phase (R13). -/
theorem fits_iff (kind : WindowKind) (n : BitVec 5) (base : Word) (width : BitVec 3) : fits kind n base width = true ↔
    (1 ≤ width.toNat → largestValue kind n base ≤ 2 ^ (8 * width.toNat) - 1) := by
  have : width = 0 ↔ ¬ 1 ≤ width.toNat := by
    rw [← BitVec.toNat_inj]; simp
  simp only [fits, Bool.or_eq_true, decide_eq_true_eq, this]
  tauto

/-- Passing fields hold the kind's code (R177). -/
theorem StagedFields.Pass.kindCode {f : StagedFields} {kind : WindowKind} {e : EndpointId} (h : f.Pass kind e) :
    f.kindCode = BitVec.ofNat 2 kind.code := by
  obtain ⟨-, -, -, hk, -⟩ := h
  exact hk

/-- Passing fields hold the endpoint's number (R12). -/
theorem StagedFields.Pass.endpoint {f : StagedFields} {kind : WindowKind} {e : EndpointId} (h : f.Pass kind e) :
    f.endpoint.toNat = e.val := by
  obtain ⟨-, -, -, -, he, -⟩ := h
  exact he

/-- Staged fields pass as an entry of one kind for one endpoint (R177). -/
theorem StagedFields.Pass.unique {f : StagedFields} {kind kind' : WindowKind} {e e' : EndpointId} (h : f.Pass kind e)
    (h' : f.Pass kind' e') : kind' = kind ∧ e' = e := by
  have hk := (windowKindOfCode_eq_some _ _).mpr h.kindCode
  have hk' := (windowKindOfCode_eq_some _ _).mpr h'.kindCode
  exact ⟨Option.some.inj (hk'.symm.trans hk), Fin.ext (h'.endpoint.symm.trans h.endpoint)⟩

/-- Checks 1 to 7 in the model's own terms (R12, R13). -/
theorem pass_iff (f : StagedFields) (kind : WindowKind) (e : EndpointId) : f.Pass kind e ↔
    (8 ≤ f.sizeLog.toNat ∧ f.sizeLog.toNat ≤ 24) ∧ f.base.toNat % 2 ^ f.sizeLog.toNat = 0 ∧
      windowKindOfCode f.kindCode = some kind ∧ f.endpoint.toNat = e.val ∧
      (kind ≠ .stream → f.addrWidth.toNat ≤ 4) ∧
      (kind = .register → f.readCmd ≠ none ∨ f.writeCmd ≠ none ∨ f.addrWidth ≠ 0) ∧
      (kind ≠ .stream → fits kind f.sizeLog f.addrBase f.addrWidth = true) := by
  have width_pos : 1 ≤ f.addrWidth.toNat ↔ ¬ f.addrWidth = 0 := by
    rw [← BitVec.toNat_inj]; simp; omega
  cases kind <;> simp [StagedFields.Pass, windowKindOfCode_eq_some, fits_iff, largestValue, width_pos, and_assoc]

/-- All that COMMIT-WINDOW can do: RANGE when one of checks 1 to 7 fails, and otherwise as the overlap check decides
(R12). -/
theorem commitWindow_cases (w : WindowId) (s : State) :
    let f := stagedFields s.staging
    ((∀ (kind : WindowKind) (e : EndpointId), ¬ f.Pass kind e) ∧ commitWindow w s = (.range, s)) ∨
      ∃ (kind : WindowKind) (e : EndpointId), f.Pass kind e ∧
        commitWindow w s =
          if s.overlapsOther w f.base f.sizeLog then (.overlap, s) else (.ok, s.setWindow w (f.entry kind e)) := by
  simp only [commitWindow, pass_iff]
  generalize stagedFields s.staging = f
  split
  · next hsize => exact .inl ⟨fun _ _ ⟨h, _⟩ => by omega, rfl⟩
  split
  · next halign => exact .inl ⟨fun _ _ ⟨_, h, _⟩ => halign h, rfl⟩
  split
  · next hkind => exact .inl ⟨fun _ _ ⟨_, _, h, _⟩ => by simp [hkind] at h, rfl⟩
  next hsize halign _ kind hkind =>
  split
  · next hep =>
    split
    · next hwidth =>
      refine .inl ⟨fun kind' _ ⟨_, _, hk, _, h, _⟩ => ?_, rfl⟩
      obtain rfl : kind = kind' := Option.some.inj (hkind.symm.trans hk)
      exact absurd (h hwidth.1) (by omega)
    split
    · next hcmd =>
      refine .inl ⟨fun kind' _ ⟨_, _, hk, _, _, h, _⟩ => ?_, rfl⟩
      obtain rfl : kind = kind' := Option.some.inj (hkind.symm.trans hk)
      simpa [hcmd.2] using h hcmd.1
    split
    · next hfit =>
      refine .inl ⟨fun kind' _ ⟨_, _, hk, _, _, _, h⟩ => ?_, rfl⟩
      obtain rfl : kind = kind' := Option.some.inj (hkind.symm.trans hk)
      simpa [hfit.2] using h hfit.1
    next hwidth hcmd hfit =>
    refine .inr ⟨kind, ⟨f.endpoint.toNat, hep⟩,
      ⟨by omega, by omega, hkind, rfl, fun hs => ?_, fun hr => ?_, fun hs => ?_⟩, rfl⟩
    · exact not_lt.mp fun h => hwidth ⟨hs, h⟩
    · by_contra h
      simp only [not_or, not_not] at h
      exact hcmd ⟨hr, h⟩
    · exact Bool.not_eq_false _ ▸ fun h => hfit ⟨hs, h⟩
  · next hep => exact .inl ⟨fun _ e ⟨_, _, _, h, _⟩ => hep (h ▸ e.isLt), rfl⟩

/-- COMMIT-WINDOW on staged fields that pass checks 1 to 7: the overlap check decides (R12). -/
theorem commitWindow_of_pass {s : State} {w : WindowId} {kind : WindowKind} {e : EndpointId}
    (h : (stagedFields s.staging).Pass kind e) :
    commitWindow w s =
      if s.overlapsOther w (stagedFields s.staging).base (stagedFields s.staging).sizeLog then (.overlap, s)
      else (.ok, s.setWindow w ((stagedFields s.staging).entry kind e)) := by
  rcases commitWindow_cases w s with ⟨hno, -⟩ | ⟨kind', e', h', heq⟩
  · exact absurd h (hno kind e)
  · obtain ⟨rfl, rfl⟩ := h.unique h'
    exact heq

/-- COMMIT-WINDOW on staged fields that fail one of checks 1 to 7 (R12). -/
theorem commitWindow_of_not_pass {s : State} (w : WindowId)
    (h : ∀ (kind : WindowKind) (e : EndpointId), ¬ (stagedFields s.staging).Pass kind e) :
    commitWindow w s = (.range, s) := by
  rcases commitWindow_cases w s with ⟨-, heq⟩ | ⟨kind, e, hpass, -⟩
  · exact heq
  · exact absurd hpass (h kind e)

/-! ### The window law (R14) -/

/-- Checks 1 to 7 on staged fields are the law of the entry they make (R12, R13). -/
theorem pass_iff_lawful {f : StagedFields} {kind : WindowKind} {e : EndpointId}
    (hk : f.kindCode = BitVec.ofNat 2 kind.code) (he : f.endpoint.toNat = e.val) : f.Pass kind e ↔ (f.entry kind e).lawful := by
  have width_pos : 1 ≤ f.addrWidth.toNat ↔ ¬ f.addrWidth = 0 := by
    rw [← BitVec.toNat_inj]; simp; omega
  simp only [pass_iff, WindowEntry.lawful, StagedFields.entry, windowKindOfCode_eq_some, hk, he, width_pos]
  tauto

/-- The window law speaks of the Window Table alone. -/
theorem windowLaw_congr {s t : State} (h : t.windows = s.windows) (hs : s.windowLaw) : t.windowLaw := by
  unfold State.windowLaw at *
  rwa [h]

/-- A change of one entry keeps the window law when the new entry is invalid, or is lawful and meets no other valid one
(R14). -/
theorem windowLaw_setWindow {s : State} {w : WindowId} {x : WindowEntry} (hs : s.windowLaw)
    (hx : x.valid = true → x.lawful ∧ s.overlapsOther w x.base x.sizeLog = false) : (s.setWindow w x).windowLaw := by
  obtain ⟨hlaw, hmeet⟩ := hs
  have apart (hv : x.valid = true) (v : WindowId) (hvw : v ≠ w) (h : s.windows[v].valid = true) :
      rangesMeet x.base x.sizeLog s.windows[v].base s.windows[v].sizeLog = false := by
    have := (hx hv).2
    simp only [State.overlapsOther, List.any_eq_false, List.mem_finRange, true_imp_iff] at this
    simpa [hvw, h, -Fin.getElem_fin] using this v
  refine ⟨fun v => ?_, fun u v huv => ?_⟩
  · simp only [State.setWindow_windows, get_set]
    split
    · exact fun h => (hx h).1
    · exact hlaw v
  · simp only [State.setWindow_windows, get_set]
    split <;> split
    · next h1 h2 => exact absurd (h1.symm.trans h2) huv
    · next h1 h2 => exact fun hu hv => apart hu v (Ne.symm h2) hv
    · next h1 h2 => exact fun hu hv => rangesMeet_comm .. ▸ apart hv u (Ne.symm h1) hu
    · exact hmeet u v huv

/-- Under the window law a valid entry's own range passes the overlap check for its place (R14). -/
theorem overlapsOther_of_windowLaw {s : State} {w : WindowId} (hs : s.windowLaw) (hw : s.windows[w].valid = true) :
    s.overlapsOther w s.windows[w].base s.windows[w].sizeLog = false := by
  obtain ⟨-, hmeet⟩ := hs
  simp only [State.overlapsOther, List.any_eq_false, List.mem_finRange, true_imp_iff, Bool.and_eq_true,
    decide_eq_true_eq, not_and, Bool.not_eq_true]
  exact fun v ⟨hvw, hv⟩ => hmeet w v hvw.symm hw hv

/-- COMMIT-WINDOW keeps the window law (R12, R14). -/
theorem windowLaw_commitWindow {s : State} (w : WindowId) (hs : s.windowLaw) : (commitWindow w s).2.windowLaw := by
  rcases commitWindow_cases w s with ⟨-, h⟩ | ⟨kind, e, hpass, h⟩
  · rwa [h]
  · rw [h]
    split
    · exact hs
    · next hno =>
      have hlawful := (pass_iff_lawful hpass.kindCode hpass.endpoint).mp hpass
      exact windowLaw_setWindow hs fun _ => ⟨hlawful, Bool.not_eq_true _ ▸ hno⟩

/-- CLEAR-WINDOW keeps the window law (R14, R15). -/
theorem windowLaw_clearWindow {s : State} (w : WindowId) (hs : s.windowLaw) : (clearWindow w s).2.windowLaw :=
  windowLaw_setWindow hs fun h => Bool.noConfusion h

/-- After a device reset no entry is valid, so the window law holds (R1, R171). -/
theorem windowLaw_deviceReset (s : State) : s.deviceReset.windowLaw := by
  have invalid (w : WindowId) : s.deviceReset.windows[w].valid ≠ true := by
    simp [State.deviceReset, State.reset, WindowEntry.reset]
  exact ⟨fun w h => absurd h (invalid w), fun v w _ h => absurd h (invalid v)⟩

/-! ### FETCH-WINDOW (R16) -/

/-- Two optional command bytes are read back from word 3 (R177). -/
theorem command_of_present_bit (c : Option Byte) : (if c.isSome = true then some (c.getD 0#8) else none) = c := by
  cases c <;> rfl

/-- The words of an entry, read as staged fields, give its fields (R177). -/
theorem stagedFields_words (x : WindowEntry) : stagedFields (tabulate fun k => x.word k.val) =
    ⟨x.base, x.sizeLog, BitVec.ofNat 2 x.kind.code, BitVec.ofNat 8 x.endpoint.val, x.readAllowed, x.writeAllowed,
      x.privilegedOnly, x.posted, x.readCmd, x.writeCmd, x.addrWidth, x.addrBase, x.dummy⟩ := by
  simp (disch := omega) only [stagedFields, tabulate_getElem, WindowEntry.word, BitVec.extractLsb'_or,
    extractLsb'_fieldAt_same, extractLsb'_fieldAt_apart, extractLsb'_flagAt_apart, BitVec.getLsbD_or,
    getLsbD_flagAt, getLsbD_fieldAt, optAt]
  simp [command_of_present_bit]

/-- An entry's words but word 1 do not show whether it is valid (R177). -/
theorem word_of_invalid (x : WindowEntry) {k : Nat} (h : k ≠ 1) :
    ({ x with valid := false } : WindowEntry).word k = x.word k := by
  unfold WindowEntry.word
  split
  case h_2 => exact absurd rfl h
  all_goals dsimp only

/-- The valid bit is bit 31 of word 1 (R177). -/
theorem word_one_of_invalid (x : WindowEntry) :
    ({ x with valid := false } : WindowEntry).word 1 = x.word 1 &&& 0x7FFFFFFF#32 := by
  have mask : ∀ i : Fin 32, (0x7FFFFFFF#32).getLsbD i.val = decide (i.val < 31) := by decide
  apply BitVec.eq_of_getLsbD_eq
  intro i hi
  simp only [WindowEntry.word, BitVec.getLsbD_and, BitVec.getLsbD_or, getLsbD_flagAt, getLsbD_fieldAt, mask ⟨i, hi⟩]
  rcases eq_or_ne i 31 with rfl | h
  · simp
  · have : i < 31 := by omega
    simp [h, this]

/-- The entry that an entry's own words make is that entry, valid (R16, R177). -/
theorem entry_of_words (x : WindowEntry) :
    (stagedFields (tabulate fun k => x.word k.val)).entry x.kind x.endpoint = { x with valid := true } := by
  rw [stagedFields_words, StagedFields.entry]

/-- The words of a lawful entry pass checks 1 to 7 (R12, R13). -/
theorem pass_of_words {x : WindowEntry} (h : x.lawful) :
    (stagedFields (tabulate fun k => x.word k.val)).Pass x.kind x.endpoint := by
  have hk : (stagedFields (tabulate fun k => x.word k.val)).kindCode = BitVec.ofNat 2 x.kind.code := by
    rw [stagedFields_words]
  have he : (stagedFields (tabulate fun k => x.word k.val)).endpoint.toNat = x.endpoint.val := by
    rw [stagedFields_words, BitVec.toNat_ofNat]
    omega
  rw [pass_iff_lawful hk he, entry_of_words]
  exact h

/-- Setting an entry to what it is changes nothing. -/
theorem setWindow_self (s : State) (w : WindowId) : s.setWindow w s.windows[w] = s := by
  simp only [State.setWindow, Fin.getElem_fin, Vector.set_getElem_self]

/-- COMMIT-WINDOW of a valid entry's own words keeps the state, under the window law (R12, R14, R16). -/
theorem commitWindow_of_fetched {s : State} {w : WindowId}
    (hstaged : s.staging = tabulate fun k => ({ s.windows[w] with valid := false } : WindowEntry).word k.val)
    (hvalid : s.windows[w].valid = true) (hlaw : s.windowLaw) : commitWindow w s = (.ok, s) := by
  have hlawful : ({ s.windows[w] with valid := false } : WindowEntry).lawful := hlaw.1 w hvalid
  have hpass := pass_of_words hlawful
  have hentry := entry_of_words { s.windows[w] with valid := false }
  rw [← hstaged] at hpass hentry
  have hsame : (stagedFields s.staging).entry s.windows[w].kind s.windows[w].endpoint = s.windows[w] := by
    rw [hentry, ← hvalid]
  have hbase := congrArg WindowEntry.base hsame
  have hsize := congrArg WindowEntry.sizeLog hsame
  simp only [StagedFields.entry] at hbase hsize
  rw [commitWindow_of_pass hpass, hsame, hbase, hsize, overlapsOther_of_windowLaw hlaw hvalid, setWindow_self]
  simp

end Sys2Proof.Machine
end

section
/-! PROOFS. O29, O30, O31: the window commands. -/

namespace Sys2Proof.Proofs

open Sys2Proof.Machine

/-- Settles O29: the inversion of `commitWindow` into its checks, with the overlap check read as R14. -/
theorem commitWindow : Obligations.CommitWindow := by
  intro s r rest w ht hc hp hw
  refine ⟨fun kind e hpass hno => ?_, fun kind e hpass hov => ?_, fun hno => ?_⟩
  · refine execCommitWindow_of_taken ht hc hp hw ((commitWindow_of_pass (s := { s with cfgHanded := rest }) hpass).trans
      (if_neg ?_))
    exact fun h => hno ((overlapsOther_iff s w _).mp h)
  · refine execCommitWindow_of_taken ht hc hp hw ((commitWindow_of_pass (s := { s with cfgHanded := rest }) hpass).trans
      (if_pos ?_))
    exact (overlapsOther_iff s w _).mpr hov
  · exact execCommitWindow_of_taken ht hc hp hw (commitWindow_of_not_pass (s := { s with cfgHanded := rest }) w hno)

/-- Settles O30: what each command makes of its state, and that a lookup finds only valid entries. -/
theorem clearAndFetchWindow : Obligations.ClearAndFetchWindow := by
  intro s r rest w ht hp hw
  refine ⟨fun hc => ⟨_, execClearWindow_of_taken ht hc hp hw, rfl, fun a ha => ?_⟩,
    fun hc => ⟨_, execFetchWindow_of_taken ht hc hp hw, fun k => ?_⟩⟩
  · have found_valid := valid_of_lookup ha
    simp at found_valid
  · rw [tabulate_get, readWord_window s w k.isLt]
    split
    · next hk => subst hk; exact word_one_of_invalid _
    · next hk => exact word_of_invalid _ fun h => hk (Fin.ext h)

/-- Settles O31: the fetched words read back as the entry's fields, so the window law makes them pass, and the entry
installed is the one fetched. -/
theorem fetchThenCommitKeepsTheTable : Obligations.FetchThenCommitKeepsTheTable := by
  intro s t u r q rest w ht hl hrc hrp hqc hqp hrw hqw hvalid hlaw hfetch hcommit
  rw [execFetchWindow_of_taken ht hrc hrp hrw, Host.Outcome.next.injEq] at hfetch
  subst hfetch
  obtain ⟨hheld, -, -⟩ := ht
  refine ⟨stagedFields_words _, ?_⟩
  have htaken : State.TakesCfg { s.afterCommand r (q :: rest) .ok with
      staging := tabulate fun k => ({ s.windows[w] with valid := false } : WindowEntry).word k.val } q rest :=
    ⟨hheld, rfl, by simp [State.afterCommand, State.afterReply]; omega⟩
  rw [execCommitWindow_of_taken htaken hqc hqp hqw (commitWindow_of_fetched rfl hvalid hlaw),
    Host.Outcome.next.injEq] at hcommit
  subst hcommit
  exact ⟨rfl, rfl⟩

end Sys2Proof.Proofs
end

section
/-! PROOFS. The Window Table through every command (chapter 1): the shared operations leave it, and so does every
command but COMMIT-WINDOW, CLEAR-WINDOW and a device reset. -/

namespace Sys2Proof.Machine

/-! ### The shared operations -/

variable (s : State)

@[simp] theorem grantCredits_windows (a b c : Nat) : (s.grantCredits a b c).windows = s.windows := by
  rw [grantCredits_frame]

@[simp] theorem addNotice_windows (n : Notice) : (s.addNotice n).windows = s.windows := by
  rw [addNotice_frame]

@[simp] theorem noteMalformed_windows : s.noteMalformed.windows = s.windows := by
  simp [State.noteMalformed]

@[simp] theorem freeSlot_windows (i : SlotId) : (s.freeSlot i).windows = s.windows := rfl

@[simp] theorem endSlot_windows (e : EndpointId) (i : SlotId) (x : MemStatus) :
    (s.endSlot e i x).windows = s.windows := by
  rw [endSlot_frame]

@[simp] theorem abortQueue_windows (e : EndpointId) : (s.abortQueue e).windows = s.windows := by
  rw [abortQueue_frame]

@[simp] theorem enterDisabled_windows (e : EndpointId) : (s.enterDisabled e).windows = s.windows := rfl

@[simp] theorem drainIfEmpty_windows (e : EndpointId) : (s.drainIfEmpty e).windows = s.windows := by
  rcases drainIfEmpty_cases s e with ⟨-, -, h⟩ | ⟨-, h⟩ <;> simp [h]

@[simp] theorem stopEndpoint_windows (e : EndpointId) : (s.stopEndpoint e).windows = s.windows :=
  abortQueue_windows s e

@[simp] theorem reportUncut_windows (e : EndpointId) (i : Option SlotId) :
    (s.reportUncut e i).windows = s.windows := by
  unfold State.reportUncut
  cases i with
  | none => rfl
  | some i => dsimp only; split <;> simp

@[simp] theorem reportLinkCut_windows (e : EndpointId) : (s.reportLinkCut e).windows = s.windows := by
  unfold State.reportLinkCut
  split <;> simp

@[simp] theorem report_windows (g : Engine) : (s.report g).windows = s.windows := by
  unfold State.report
  split
  · rfl
  · split
    · exact reportUncut_windows ..
    · exact stopEndpoint_windows ..
    · exact reportLinkCut_windows ..

@[simp] theorem finishTransaction_windows (l : LaneId) : (s.finishTransaction l).windows = s.windows :=
  report_windows _ _

@[simp] theorem cutByAbort_windows (l : LaneId) : (s.cutByAbort l).windows = s.windows := by
  unfold State.cutByAbort
  dsimp only
  split
  · rfl
  · split <;> simp

@[simp] theorem linkReset_windows : s.linkReset.windows = s.windows := rfl

@[simp] theorem startReplay_windows : s.startReplay.windows = s.windows := by
  rcases startReplay_cases s with ⟨-, h⟩ | ⟨-, h⟩ <;> simp [h]

@[simp] theorem judgeLevel_windows (e : EndpointId) : (s.judgeLevel e).windows = s.windows := by
  rcases judgeLevel_cases s e with ⟨-, -, -, h⟩ | h <;> simp [h]

@[simp] theorem enterReplayBuffer_windows (b : SeqBody) : (s.enterReplayBuffer b).windows = s.windows := rfl

@[simp] theorem creditCheck_windows (r : Request) : (s.creditCheck r).windows = s.windows := by
  unfold State.creditCheck State.overrun State.consumeCredits
  cases r with
  | mem m => dsimp only; split_ifs <;> simp
  | cfg c => dsimp only; split_ifs <;> simp

@[simp] theorem acceptPacket_windows (p : HostPacket) : (s.acceptPacket p).windows = s.windows := by
  unfold State.acceptPacket
  dsimp only
  split <;> simp

@[simp] theorem judgeSequence_windows (p : HostPacket) : (s.judgeSequence p).windows = s.windows := by
  unfold State.judgeSequence
  dsimp only
  split_ifs <;> simp

@[simp] theorem takeNak_windows (n : SeqNum) : (s.takeNak n).windows = s.windows := by
  unfold State.takeNak
  dsimp only
  split <;> simp

@[simp] theorem takeSync_windows : s.takeSync.windows = s.windows := by
  unfold State.takeSync
  dsimp only
  split <;> simp

@[simp] theorem writeWord_windows (i : Nat) (v : Word) : (s.writeWord i v).windows = s.windows := by
  unfold State.writeWord
  dsimp only
  split_ifs <;> simp

@[simp] theorem writeWords_windows (i : Nat) (vs : List Word) : (writeWords s i vs).windows = s.windows := by
  induction vs generalizing s i with
  | nil => rfl
  | cons v vs ih => rw [writeWords, ih, writeWord_windows]

@[simp] theorem refuse_windows (m : MemRequest) (x : MemStatus) (w : Option WindowId) (i : SlotId) :
    (refuse m x w i s).windows = s.windows := by
  unfold refuse refusePosted refuseNonPosted
  split
  · split <;> simp
  · simp
  · simp

@[simp] theorem wordDone_windows (g : Engine) (j : Nat) (din : Word) : (s.wordDone g j din).windows = s.windows := by
  rw [wordDone_frame]

/-! ### What a command leads to -/

/-- Every next state that `r` can give meets `P`. -/
def Leads (r : Result) (P : State → Prop) : Prop := ∀ t, r = .next t → P t

variable {s} {P : State → Prop}

@[simp] theorem leads_next {t : State} : Leads (.next t) P ↔ P t :=
  ⟨fun h => h t rfl, fun h _ e => Host.Outcome.next.inj e ▸ h⟩

@[simp] theorem leads_fault (x : Fault) : Leads (.fault x) P := fun _ e => by simp at e

/-- A command under `unlessHeld` does nothing, or what it does outside reset (R171). -/
theorem leads_unlessHeld {r : Result} (hs : P s) (hr : Leads r P) : Leads (unlessHeld s r) P := by
  intro t ht
  rcases unlessHeld_cases ht with ⟨-, h⟩ | ⟨-, h⟩
  · exact Host.Outcome.next.inj h ▸ hs
  · exact hr t h.symm

/-- Taking a CFG request keeps what its act keeps, when the queue and the reply list do not matter to it (R162). -/
theorem leads_takeCfg {p : CfgRequest → Bool} {act : CfgRequest → State → CfgReply × State} (hs : P s)
    (hact : ∀ r u, P u → P (act r u).2) (hq : ∀ u rest, P u → P { u with cfgHanded := rest })
    (hr : ∀ u x, P u → P (u.addReply x)) : Leads (takeCfg s p act) P := by
  intro t ht
  rcases takeCfg_cases ht with rfl | ⟨r, rest, -, -, -, rfl⟩
  · exact hs
  · exact hr _ _ (hact _ _ (hq _ _ hs))

/-- Taking a command keeps what performing it keeps, when the queue, the reply list and the last-command record do not
matter to it (R168). -/
theorem leads_takeCommand {code : Byte} {perform : Byte → State → CfgStatus × State} (hs : P s)
    (hact : ∀ index u, P u → P (perform index u).2) (hq : ∀ u rest, P u → P { u with cfgHanded := rest })
    (hr : ∀ u x, P u → P (u.addReply x)) (hc : ∀ u c, P u → P { u with lastCommand := c }) :
    Leads (takeCommand s code perform) P := by
  refine leads_takeCfg hs (fun r u hu => ?_) hq hr
  unfold commandAct
  split
  · exact hu
  · exact hc _ _ (hact _ _ hu)

/-- An endpoint command does nothing, or acts on the endpoint its index names (R168). -/
theorem onEndpoint_cases (f : EndpointId → State → CfgStatus × State) (index : Byte) (s : State) :
    onEndpoint f index s = (.range, s) ∨ ∃ e : EndpointId, onEndpoint f index s = f e s := by
  unfold onEndpoint
  split
  · exact .inr ⟨_, rfl⟩
  · exact .inl rfl

/-- A packet command keeps what sending the packet keeps (R103). -/
theorem leads_onChoice {act : Candidate → Option State} (hs : P s) (hact : ∀ c t, act c = some t → P t) :
    Leads (onChoice s act) P := by
  intro t ht
  rcases onChoice_cases ht with rfl | ⟨c, -, -, -, h⟩
  · exact hs
  · exact hact c t h

/-! ### The Window Table through every command -/

/-- Acceptance when the free blocks suffice (R50, R55). -/
theorem accept_of_blocks {m : MemRequest} (w : WindowId) (i : SlotId)
    (h : blocksFor m.length.toNat ≤ s.freeBlocks.length) : accept m w i s = .next { s with
      slots := s.slots.set i {
        state := .queued, tag := m.tag, cls := m.cls, direction := m.direction
        posted := decide (m.direction = .write) && s.windows[w].posted, length := m.length, beatsDone := 0
        blocks := s.freeBlocks.take (blocksFor m.length.toNat)
        translation := some (s.windows[w].snapshot w m), status := none }
      freeBlocks := s.freeBlocks.drop (blocksFor m.length.toNat)
      pool := match m.direction with
        | .read => s.pool
        | .write => writeBeats (s.freeBlocks.take (blocksFor m.length.toNat)) 0 m.beats s.pool
      queues := s.queues.set s.windows[w].endpoint (s.queues[s.windows[w].endpoint] ++ [i]) } := by
  rw [accept, if_neg (not_lt.mpr h)]
  rfl

/-- Acceptance faults when the free blocks do not suffice (R52). -/
theorem accept_of_few_blocks {m : MemRequest} (w : WindowId) (i : SlotId)
    (h : s.freeBlocks.length < blocksFor m.length.toNat) : accept m w i s = .fault .noFreeBlock := by
  rw [accept, if_pos h]

/-- A command leaves the Window Table as it is in `s`. -/
def LeavesWindows (s : State) (r : Result) : Prop := Leads r fun t => t.windows = s.windows

/-- A command that leaves the Window Table keeps the window law. -/
theorem LeavesWindows.windowLaw {r : Result} (h : LeavesWindows s r) (hs : s.windowLaw) : Leads r State.windowLaw :=
  fun t ht => windowLaw_congr (h t ht) hs

theorem accept_leavesWindows (m : MemRequest) (w : WindowId) (i : SlotId) : LeavesWindows s (accept m w i s) := by
  rcases le_or_gt (blocksFor m.length.toNat) s.freeBlocks.length with h | h
  · rw [accept_of_blocks w i h]
    exact leads_next.mpr rfl
  · rw [accept_of_few_blocks w i h]
    exact leads_fault _

theorem takeMem_leavesWindows (d : Direction) : LeavesWindows s (takeMem d s) := by
  intro t ht
  rcases takeMem_cases ht with rfl | ⟨m, rest, -, -, hreq⟩
  · rfl
  · obtain ⟨i, -, ⟨w, -, hacc⟩ | ⟨x, w, -, rfl⟩⟩ := takeRequest_cases hreq
    · exact accept_leavesWindows (s := { s with memHanded := rest }) m w i t hacc
    · exact refuse_windows _ m x w i

theorem takeCfg_leavesWindows {p : CfgRequest → Bool} {act : CfgRequest → State → CfgReply × State}
    (h : ∀ r u, (act r u).2.windows = u.windows) : LeavesWindows s (unlessHeld s (takeCfg s p act)) :=
  leads_unlessHeld rfl (leads_takeCfg rfl (fun r u hu => (h r u).trans hu) (fun _ _ hu => hu) fun _ _ hu => hu)

theorem takeCommand_leavesWindows {code : Byte} {perform : Byte → State → CfgStatus × State}
    (h : ∀ index u, (perform index u).2.windows = u.windows) :
    LeavesWindows s (unlessHeld s (takeCommand s code perform)) :=
  leads_unlessHeld rfl (leads_takeCommand rfl (fun i u hu => (h i u).trans hu) (fun _ _ hu => hu) (fun _ _ hu => hu)
    fun _ _ hu => hu)

theorem onEndpoint_windows {f : EndpointId → State → CfgStatus × State} (h : ∀ e u, (f e u).2.windows = u.windows)
    (index : Byte) (u : State) : (onEndpoint f index u).2.windows = u.windows := by
  rcases onEndpoint_cases f index u with heq | ⟨e, heq⟩ <;> rw [heq]
  exact h e u

theorem readAct_windows (r : CfgRequest) (u : State) : (readAct r u).2.windows = u.windows := by
  unfold readAct
  split <;> rfl

theorem writeAct_windows (r : CfgRequest) (u : State) : (writeAct r u).2.windows = u.windows := by
  unfold writeAct
  split_ifs
  · rfl
  · rfl
  · split
    · rfl
    · exact writeWords_windows _ _ _

theorem acknowledgeAct_windows (r : CfgRequest) (u : State) : (acknowledgeAct r u).2.windows = u.windows := by
  unfold acknowledgeAct
  split <;> rfl

theorem enableEndpoint_windows (e : EndpointId) (u : State) : (enableEndpoint e u).2.windows = u.windows := by
  unfold enableEndpoint
  dsimp only
  split
  · split_ifs <;> simp
  all_goals rfl

theorem disableEndpoint_windows (e : EndpointId) (u : State) : (disableEndpoint e u).2.windows = u.windows := by
  unfold disableEndpoint
  split
  · split_ifs <;> rfl
  · rfl
  · exact stopEndpoint_windows u e
  · rfl
  · rfl

theorem abortEndpoint_windows (e : EndpointId) (u : State) : (abortEndpoint e u).2.windows = u.windows := by
  have inside : (abortInside e u).windows = u.windows := cutByAbort_windows _ _
  unfold abortEndpoint
  split
  · split <;> simp [inside]
  · split <;> simp [inside]
  · exact stopEndpoint_windows u e
  · rfl
  · rfl

theorem resumeEndpoint_windows (e : EndpointId) (u : State) : (resumeEndpoint e u).2.windows = u.windows := by
  unfold resumeEndpoint
  dsimp only
  split <;> simp

theorem execReadyTimeout_leavesWindows (l : LaneId) : LeavesWindows s (execReadyTimeout l s) := by
  refine leads_unlessHeld rfl ?_
  split
  · dsimp only
    split
    · simp
    · split <;> simp
  all_goals simp

theorem execGrant_leavesWindows (l : LaneId) : LeavesWindows s (execGrant l s) := by
  refine leads_unlessHeld rfl ?_
  split
  · simp
  · split
    · simp
    · split
      · simp
      · split <;> simp

theorem sendSlotReply_windows (d : Direction) (c : Candidate) (t : State) (h : s.sendSlotReply d c = some t) :
    t.windows = s.windows := by
  unfold State.sendSlotReply at h
  split at h
  · simp only [Option.ite_none_right_eq_some, Option.some.injEq] at h
    obtain ⟨-, rfl⟩ := h
    simp [State.sendImmediate]
  · simp only [Option.ite_none_right_eq_some, Option.some.injEq] at h
    obtain ⟨-, rfl⟩ := h
    simp [State.sendCompletion, State.clearFences]
  · simp at h

/-- Every command but COMMIT-WINDOW, CLEAR-WINDOW and the two device resets leaves the Window Table (R1, R12, R15,
R171). -/
theorem exec_leavesWindows (c : Instr) (s : State)
    (hc : c ∉ [Instr.commitWindow, .clearWindow, .deviceReset, .resetNAssert]) : LeavesWindows s (exec c s) := by
  cases c with
  | commitWindow => simp at hc
  | clearWindow => simp at hc
  | deviceReset => simp at hc
  | resetNAssert => simp at hc
  | badPacket f => exact leads_unlessHeld rfl (by split <;> simp)
  | sequencedPacket f => exact leads_unlessHeld rfl (by split <;> [split; skip] <;> simp)
  | hostAck f => exact leads_unlessHeld rfl (by split <;> [split_ifs; skip] <;> simp)
  | hostNak f => exact leads_unlessHeld rfl (by split <;> [split_ifs; skip] <;> simp)
  | sync f => exact leads_unlessHeld rfl (by split <;> [split; skip] <;> simp)
  | memRead => exact leads_unlessHeld rfl (takeMem_leavesWindows _)
  | memWrite => exact leads_unlessHeld rfl (takeMem_leavesWindows _)
  | cfgRead => exact takeCfg_leavesWindows readAct_windows
  | cfgWrite => exact takeCfg_leavesWindows writeAct_windows
  | attentionAcknowledge => exact takeCfg_leavesWindows acknowledgeAct_windows
  | fetchWindow =>
    refine takeCommand_leavesWindows fun index u => ?_
    rcases onWindow_cases fetchWindow index u with h | ⟨w, h⟩ <;> rw [h]
    rfl
  | enableEndpoint => exact takeCommand_leavesWindows (onEndpoint_windows enableEndpoint_windows)
  | disableEndpoint => exact takeCommand_leavesWindows (onEndpoint_windows disableEndpoint_windows)
  | abortEndpoint => exact takeCommand_leavesWindows (onEndpoint_windows abortEndpoint_windows)
  | resumeEndpoint => exact takeCommand_leavesWindows (onEndpoint_windows resumeEndpoint_windows)
  | clearCounters => exact takeCommand_leavesWindows fun _ _ => rfl
  | unknownCommand =>
    refine takeCfg_leavesWindows fun r u => ?_
    unfold commandAct
    split <;> rfl
  | ack | nak | syncAck | syncRequest | resend | notice | attn =>
    refine leads_onChoice rfl fun c t h => ?_
    cases c <;> simp at h
    exact h ▸ rfl
  | cfgReply =>
    refine leads_onChoice rfl fun c t h => ?_
    cases c <;> simp at h
    exact h ▸ grantCredits_windows ..
  | readData => exact leads_onChoice rfl (sendSlotReply_windows _)
  | writeDone => exact leads_onChoice rfl (sendSlotReply_windows _)
  | transmissionEnd => exact leads_unlessHeld rfl (by simp)
  | replayTimerExpiry => exact leads_unlessHeld rfl (by split <;> simp)
  | refreshTimerExpiry => exact leads_unlessHeld rfl (by split <;> simp)
  | requestTimerExpiry => exact leads_unlessHeld rfl (by split <;> simp)
  | grant l => exact execGrant_leavesWindows l
  | readySeen l => exact leads_unlessHeld rfl (by split <;> simp)
  | readyTimeout l => exact execReadyTimeout_leavesWindows l
  | phaseEnd l =>
    intro t ht
    rcases execPhaseEnd_cases ht with rfl | ⟨g, -, -, -, rfl⟩ <;> rfl
  | wordComplete l din =>
    intro t ht
    rcases execWordComplete_cases ht with rfl | ⟨j, g, -, -, -, rfl⟩
    · rfl
    · exact wordDone_windows ..
  | release l => exact leads_unlessHeld rfl (by split <;> simp)
  | gapEnd l => exact leads_unlessHeld rfl (by split <;> simp)
  | attentionSample levels => exact leads_unlessHeld rfl (by simp)
  | resetNRelease =>
    show LeavesWindows s (execResetNRelease s)
    unfold execResetNRelease
    split <;> exact leads_next.mpr rfl

/-- A window command keeps the window law when it does so on the window its index names (R168). -/
theorem takeWindowCommand_windowLaw {code : Byte} {f : WindowId → State → CfgStatus × State} (hs : s.windowLaw)
    (h : ∀ w u, u.windowLaw → (f w u).2.windowLaw) :
    Leads (unlessHeld s (takeCommand s code (onWindow f))) State.windowLaw := by
  refine leads_unlessHeld hs (leads_takeCommand hs (fun index u hu => ?_) (fun _ _ => windowLaw_congr rfl)
    (fun _ _ => windowLaw_congr rfl) fun _ _ => windowLaw_congr rfl)
  rcases onWindow_cases f index u with heq | ⟨w, heq⟩ <;> rw [heq]
  · exact hu
  · exact h w u hu

/-- DEVICE_RESET keeps the window law: a reset leaves no valid entry, and a refusal leaves the table (R170, R171). -/
theorem execDeviceReset_windowLaw (hs : s.windowLaw) : Leads (execDeviceReset s) State.windowLaw := by
  refine leads_unlessHeld hs ?_
  split
  · exact leads_next.mpr hs
  · split_ifs
    · exact leads_next.mpr (windowLaw_congr rfl hs)
    · exact leads_fault _
    · exact leads_next.mpr (windowLaw_deviceReset s)
    · exact leads_next.mpr hs

/-- Every command keeps the window law: COMMIT-WINDOW and CLEAR-WINDOW by what they install, a device reset because it
leaves no valid entry, every other by leaving the table (R12 to R15, R171). -/
theorem exec_windowLaw (c : Instr) (hs : s.windowLaw) : Leads (exec c s) State.windowLaw := by
  by_cases hc : c ∉ [Instr.commitWindow, .clearWindow, .deviceReset, .resetNAssert]
  · exact (exec_leavesWindows c s hc).windowLaw hs
  · simp only [List.mem_cons, List.not_mem_nil, or_false, not_not] at hc
    obtain rfl | rfl | rfl | rfl := hc
    · exact takeWindowCommand_windowLaw hs fun w _ => windowLaw_commitWindow w
    · exact takeWindowCommand_windowLaw hs fun w _ => windowLaw_clearWindow w
    · exact execDeviceReset_windowLaw hs
    · exact leads_next.mpr (windowLaw_congr rfl (windowLaw_deviceReset s))

end Sys2Proof.Machine
end

section
/-! PROOFS. O56: the window law. -/

namespace Sys2Proof.Proofs

open Sys2Proof.Machine

/-- Settles O56: an empty queue idles, and every command keeps the law. -/
theorem windowLawKept : Obligations.WindowLawKept := by
  intro s t hs ht
  unfold step at ht
  split at ht
  · exact Host.Outcome.next.inj ht ▸ hs
  · next c rest _ => exact exec_windowLaw c (windowLaw_congr (t := { s with pending := rest }) rfl hs) t ht

end Sys2Proof.Proofs
end

section
/-! PROOFS. CFG_WRITE (R164): the first failing word, and every word written. -/

namespace Sys2Proof.Machine

/-! ### Judging a word (R24, R164, R178) -/

/-- A range check fails with RANGE and nothing else. -/
theorem rangeUnless_eq_some (ok : Bool) (x : CfgStatus) : rangeUnless ok = some x ↔ ok = false ∧ x = .range := by
  cases ok <;> simp [rangeUnless, eq_comm]

/-- Word 2's values are out of their ranges (R178). -/
theorem word2InRange_eq_false (v : Word) : word2InRange v = false ↔
    (v.extractLsb' 12 2).toNat > 1 ∨ (v.extractLsb' 14 2).toNat > 1 ∨ (v.extractLsb' 16 6).toNat < 4 ∨
      (v.extractLsb' 16 6).toNat > 32 := by
  simp only [word2InRange, Bool.and_eq_false_iff, decide_eq_false_iff_not, not_le, or_assoc, gt_iff_lt]

/-- Word 3's value is out of its range (R178). -/
theorem word3InRange_eq_false (v : Word) : word3InRange v = false ↔ (v.extractLsb' 0 8).toNat < 2 := by
  simp only [word3InRange, decide_eq_false_iff_not, not_le]

/-- Word 4's values are out of their ranges (R178). -/
theorem word4InRange_eq_false (v : Word) : word4InRange v = false ↔
    v.extractLsb' 0 8 = 0 ∨ (v.extractLsb' 8 5).toNat = 0 ∨ (v.extractLsb' 8 5).toNat > 16 ∨
      v.extractLsb' 16 12 = 0 := by
  simp only [word4InRange, Bool.and_eq_false_iff, decide_eq_false_iff_not, not_le, or_assoc, gt_iff_lt, not_not, ne_eq,
    Nat.lt_one_iff]

/-- Word 6's values are out of their ranges (R178). -/
theorem word6InRange_eq_false (v : Word) :
    word6InRange v = false ↔ 16 ≤ (v.extractLsb' 0 5).toNat ∧ (v.extractLsb' 0 5).toNat ≤ 30 := by
  have : (v.extractLsb' 0 5).toNat < 32 := (v.extractLsb' 0 5).isLt
  simp only [word6InRange, Bool.or_eq_false_iff, decide_eq_false_iff_not]
  omega

/-- A word of a descriptor fails by the lock check first, then by the field and its range (R24, R178). -/
theorem descriptor_judgeWord_eq_some (d : Descriptor) (k : Nat) (v : Word) (x : CfgStatus) :
    d.judgeWord k v = some x ↔
      if k = 2 ∨ k = 3 then
        if d.state ≠ .disabled then x = .locked
        else if k = 2 then
          x = .range ∧
            ((v.extractLsb' 12 2).toNat > 1 ∨ (v.extractLsb' 14 2).toNat > 1 ∨ (v.extractLsb' 16 6).toNat < 4 ∨
              (v.extractLsb' 16 6).toNat > 32)
        else x = .range ∧ (v.extractLsb' 0 8).toNat < 2
      else if k = 4 then
        x = .range ∧
          (v.extractLsb' 0 8 = 0 ∨ (v.extractLsb' 8 5).toNat = 0 ∨ (v.extractLsb' 8 5).toNat > 16 ∨
            v.extractLsb' 16 12 = 0)
      else if k = 5 then False
      else if k = 6 then x = .range ∧ 16 ≤ (v.extractLsb' 0 5).toNat ∧ (v.extractLsb' 0 5).toNat ≤ 30
      else x = .range := by
  unfold Descriptor.judgeWord
  split
  · by_cases h : d.state = .disabled
    · simp [h, rangeUnless_eq_some, word2InRange_eq_false, and_comm]
    · simp [h, eq_comm]
  · by_cases h : d.state = .disabled
    · simp [h, rangeUnless_eq_some, word3InRange_eq_false, and_comm]
    · simp [h, eq_comm]
  · simp [rangeUnless_eq_some, word4InRange_eq_false, and_comm]
  · simp
  · simp [rangeUnless_eq_some, word6InRange_eq_false, and_comm]
  · next h2 h3 h4 h5 h6 =>
    rw [if_neg (not_or.mpr ⟨h2, h3⟩), if_neg h4, if_neg h5, if_neg h6, Option.some.injEq, eq_comm]

/-- A word of a write fails with the status that R24, R164 and R178 give, and passes otherwise. -/
theorem judgeWord_eq_some (s : State) (length i : Nat) (v : Word) (x : CfgStatus) :
    s.judgeWord length i v = some x ↔ s.WordFails length i v x := by
  unfold State.judgeWord State.WordFails
  simp only [commandWord, acknowledgeWord, controlWord]
  by_cases h1 : i = 8 ∨ i = 12
  · simp [h1, rangeUnless_eq_some]
  by_cases h2 : i = 4
  · simp [h2, rangeUnless_eq_some]
  by_cases h3 : 0x040 ≤ i ∧ i < 0x048
  · simp [h1, h2, h3]
  by_cases h4 : 0x200 ≤ i ∧ i < 0x300
  · simp only [h1, h2, h3, h4, if_false, dif_pos, and_self]
    exact descriptor_judgeWord_eq_some ..
  · simp [h1, h2, h3, h4, eq_comm]

/-- No word fails when none fails by R24, R164 and R178. -/
theorem firstFailure_eq_none (s : State) (length start : Nat) (vs : List Word) (k : Nat)
    (h : ∀ (j : Nat) (v : Word) (x : CfgStatus), vs[j]? = some v → ¬ s.WordFails length (start + (k + j)) v x) :
    firstFailure s length start k vs = none := by
  induction vs generalizing k with
  | nil => rfl
  | cons v vs ih =>
    have passes : s.judgeWord length (start + k) v = none := by
      rw [Option.eq_none_iff_forall_ne_some]
      exact fun x hx => h 0 v x rfl ((judgeWord_eq_some ..).mp hx)
    rw [firstFailure, passes]
    refine ih (k + 1) fun j u x hj => ?_
    rw [show k + 1 + j = k + (j + 1) by omega]
    exact h (j + 1) u x (by simpa using hj)

/-! ### Writing the words (R164) -/

/-- Writing the words in ascending order (R164). -/
theorem writeWords_eq_foldl (s : State) (start k : Nat) (vs : List Word) :
    writeWords s (start + k) vs = (vs.zipIdx k).foldl (fun t x => t.writeWord (start + x.2) x.1) s := by
  induction vs generalizing s k with
  | nil => rfl
  | cons v vs ih => rw [writeWords, List.zipIdx_cons, List.foldl_cons, ← ih, Nat.add_assoc]

/-- Judging a level and taking a CFG request do not touch each other. -/
theorem judgeLevel_cfgHanded (s : State) (rest : List CfgRequest) (e : EndpointId) :
    ({ s with cfgHanded := rest } : State).judgeLevel e = { s.judgeLevel e with cfgHanded := rest } := by
  by_cases h : s.endpoints[e].state ≠ .disabled ∧ s.attn[e].state = .idle ∧ s.levelHolds e = true
  · have taken : s.judgeLevel e = s.setAttn e (s.takenRecord e) := if_pos h
    rw [taken]
    exact if_pos h
  · have kept : s.judgeLevel e = s := if_neg h
    rw [kept]
    exact if_neg h

/-- Writing a word and taking a CFG request do not touch each other. -/
theorem writeWord_cfgHanded (s : State) (rest : List CfgRequest) (i : Nat) (v : Word) :
    ({ s with cfgHanded := rest } : State).writeWord i v = { s.writeWord i v with cfgHanded := rest } := by
  unfold State.writeWord
  dsimp only
  split_ifs
  · rfl
  · rfl
  · exact judgeLevel_cfgHanded (s.setDescriptor ⟨(i - 0x200) / 16, by omega⟩ _) rest _
  · rfl
  · rfl

/-- Writing words and taking a CFG request do not touch each other. -/
theorem writeWords_cfgHanded (s : State) (rest : List CfgRequest) (i : Nat) (vs : List Word) :
    writeWords { s with cfgHanded := rest } i vs = { writeWords s i vs with cfgHanded := rest } := by
  induction vs generalizing s i with
  | nil => rfl
  | cons v vs ih => rw [writeWords, writeWord_cfgHanded, ih, writeWords]

/-- A CFG-WRITE whose words all pass, taken: its words are written in ascending order and the reply is OK (R164). -/
theorem execCfgWrite_of_pass {s : State} {r : CfgRequest} {rest : List CfgRequest} (ht : s.TakesCfg r rest)
    (hd : r.direction = .write) (hp : r.cls = .privileged) (hend : r.start.toNat + r.length.toNat - 1 ≤ 1023)
    (hplain : ¬ (r.length = 1 ∧ (r.start = 0x008#10 ∨ r.start = 0x00C#10)))
    (hpass : ∀ (j : Nat) (v : Word) (x : CfgStatus), r.data[j]? = some v →
      ¬ s.WordFails r.length.toNat (r.start.toNat + j) v x) :
    exec .cfgWrite s = .next ((writeWords s r.start.toNat r.data).afterReply r rest .ok none []) := by
  obtain ⟨hs, hr, hl⟩ := ht
  have start_at (a : Nat) (ha : a < 1024) : r.start.toNat = a ↔ r.start = BitVec.ofNat 10 a := by
    rw [← BitVec.toNat_inj, BitVec.toNat_ofNat, Nat.mod_eq_of_lt ha]
  have performs : r.performs = false := by
    have not_single : r.length = 1 → r.start ≠ 0x008#10 ∧ r.start ≠ 0x00C#10 := fun hl => by
      simpa [hl, not_or] using hplain
    by_cases hl : r.length = 1
    · have h8 : r.start.toNat ≠ 8 := fun h => (not_single hl).1 ((start_at 8 (by omega)).mp h)
      have hC : r.start.toNat ≠ 12 := fun h => (not_single hl).2 ((start_at 12 (by omega)).mp h)
      simp [CfgRequest.performs, CfgRequest.isSingleWrite, commandWord, acknowledgeWord, h8, hC]
    · have hl' : r.length ≠ 1#8 := hl
      simp [CfgRequest.performs, CfgRequest.isSingleWrite, hl']
  have inside : pastEnd r = false := decide_eq_false (by rw [Config.lastManagementWord]; omega)
  have passes : firstFailure { s with cfgHanded := rest } r.length.toNat r.start.toNat 0 r.data = none :=
    firstFailure_eq_none _ _ _ _ _ fun j v x hj => (Nat.zero_add j).symm ▸ hpass j v x hj
  have act : writeAct r { s with cfgHanded := rest } =
      (plainReply r .ok 0, writeWords { s with cfgHanded := rest } r.start.toNat r.data) := by
    simp [writeAct, hp, inside, passes]
  show unlessHeld s _ = _
  rw [unlessHeld_of_high hs, takeCfg_of_taken hr (by simp [hd, performs]) hl, act, writeWords_cfgHanded]
  rfl

/-! ### What the writing of one word changes (R2, R20, R176 to R178) -/

/-- A staging word takes a write whole (R2, R177). -/
theorem writeWord_staging (s : State) (k : Fin 8) (v : Word) :
    s.writeWord (0x040 + k.val) v = { s with staging := s.staging.set k v } := by
  have hk := k.isLt
  simp (disch := omega) only [State.writeWord, controlWord, if_neg]
  rw [dif_pos (by omega)]
  simp

/-- Writing a word of a descriptor changes its fields; a write of word 6 then has the level judged (R118). -/
theorem writeWord_descriptor (s : State) (e : EndpointId) {k : Nat} (hk : k < 16) (v : Word) :
    s.writeWord (0x200 + 16 * e.val + k) v =
      if k = 6 then (s.setDescriptor e (s.endpoints[e].writeWord k v)).judgeLevel e
      else s.setDescriptor e (s.endpoints[e].writeWord k v) := by
  have he := e.isLt
  have hrow : (0x200 + 16 * e.val + k - 0x200) / 16 = e.val := by omega
  have hcol : (0x200 + 16 * e.val + k - 0x200) % 16 = k := by omega
  simp (disch := omega) only [State.writeWord, controlWord, if_neg, dif_neg, hrow, hcol]
  rw [dif_pos (by omega)]

/-- The level sense of an endpoint holds on the latest sample (R117, R118). -/
theorem levelHolds_iff (s : State) (e : EndpointId) : s.levelHolds e = true ↔ s.LevelNow e := by
  unfold State.levelHolds State.LevelNow State.LevelMet
  cases hn : s.endpoints[e].attnInput with
  | none => simp
  | some n =>
    cases hl : s.lastSample with
    | none => simp
    | some levels => cases hx : s.endpoints[e].attnSense <;> simp [AttnSense.levelHolds]

/-- A level that holds on an IDLE record of an endpoint that is not DISABLED is taken at once (R118). -/
theorem judgeLevel_of_taken {s : State} {e : EndpointId} (hst : s.endpoints[e].state ≠ .disabled)
    (hattn : s.attn[e].state = .idle) (hlev : s.LevelNow e) :
    s.judgeLevel e = s.setAttn e ⟨.pending, s.completions[e].getLast?, 0⟩ :=
  if_pos ⟨hst, hattn, (levelHolds_iff s e).mpr hlev⟩

/-- Without one of the conditions of R118 nothing is taken. -/
theorem judgeLevel_of_not {s : State} {e : EndpointId}
    (h : s.endpoints[e].state = .disabled ∨ s.attn[e].state ≠ .idle ∨ ¬ s.LevelNow e) : s.judgeLevel e = s := by
  refine if_neg fun ⟨hst, hattn, hlev⟩ => ?_
  rcases h with h | h | h
  · exact hst h
  · exact h hattn
  · exact h ((levelHolds_iff s e).mp hlev)

/-- A write of word 6 sets attnInput and attnSense and has the level judged at once (R118, R178). -/
theorem writeWord_six (s : State) (e : EndpointId) {v : Word} {n : Option (Fin 16)} {sense : AttnSense}
    (hn : (v.extractLsb' 0 5).toNat = n.elim 31 Fin.val) (hsense : (v.extractLsb' 8 2).toNat = sense.code) :
    s.writeWord (0x200 + 16 * e.val + 6) v =
      (s.setDescriptor e { s.endpoints[e] with attnInput := n, attnSense := sense }).judgeLevel e := by
  rw [writeWord_descriptor s e (by omega), if_pos rfl, Descriptor.writeWord, attnInputOfCode_of_toNat hn,
    attnSenseOfCode_of_toNat hsense]

end Sys2Proof.Machine
end

section
/-! PROOFS. O27: the writing of management words. -/

namespace Sys2Proof.Proofs

open Sys2Proof.Machine

/-- Settles O27: no word fails, so every word is written; and each region's write unfolded once. -/
theorem cfgWriteApplied : Obligations.CfgWriteApplied := by
  refine ⟨fun s r rest ht hd hp _ hend hplain hpass => ?_, fun s v => ⟨rfl, fun k => ?_, fun e => ⟨?_, ?_, ?_, ?_,
    fun n sense hn hsense => ⟨fun hst hattn hlev => ?_, fun h => ?_⟩⟩⟩⟩
  · rw [execCfgWrite_of_pass ht hd hp hend hplain hpass]
    rw [← writeWords_eq_foldl s r.start.toNat 0, Nat.add_zero]
  · exact writeWord_staging s k v
  · exact writeWord_descriptor s e (by omega) v
  · exact writeWord_descriptor s e (by omega) v
  · exact writeWord_descriptor s e (by omega) v
  · exact writeWord_descriptor s e (by omega) v
  · rw [writeWord_six s e hn hsense]
    exact judgeLevel_of_taken (by simpa [State.setDescriptor] using hst) hattn hlev
  · rw [writeWord_six s e hn hsense]
    exact judgeLevel_of_not (h.imp_left fun h => by simpa [State.setDescriptor] using h)

end Sys2Proof.Proofs
end

section
/-! PROOFS. MEM requests accepted (chapters 1 and 3): the slot, the window and the checks that acceptance takes, and the
beats of a write in its blocks. -/

namespace Sys2Proof.Machine

/-! ### The lowest free slot, the lookup and the checks (R3, R44, R53) -/

/-- The first place with a property is found by the search. -/
theorem find?_finRange_of_first {n : Nat} {p : Fin n → Bool} {i : Fin n} (hi : p i = true)
    (hlow : ∀ j, j < i → p j = false) : (List.finRange n).find? p = some i :=
  List.find?_eq_some_iff_getElem.mpr
    ⟨hi, i.val, by simp, by simp, fun j hj => by simpa using hlow ⟨j, by omega⟩ hj⟩

/-- The lowest-numbered slot of the free pool is the one taken (R44). -/
theorem lowestFreeSlot_of_lowestFree {s : State} {i : SlotId} (h : s.LowestFree i) : s.lowestFreeSlot = some i :=
  find?_finRange_of_first (decide_eq_true h.1) fun j hj => decide_eq_false (h.2 j hj)

/-- An entry contains an address when it covers it (R3). -/
theorem contains_iff_covers (s : State) (w : WindowId) (a : Word) :
    s.windows[w].contains a = true ↔ s.Covers w a := by
  simp only [WindowEntry.contains, Bool.and_eq_true, decide_eq_true_eq, and_assoc]
  rfl

/-- The only entry that covers an address is looked up (R3). -/
theorem lookup_of_covers {s : State} {w : WindowId} {a : Word} (hw : s.Covers w a)
    (huniq : ∀ v : WindowId, s.Covers v a → v = w) : s.lookup a = some w :=
  find?_finRange_of_unique ((contains_iff_covers s w a).mpr hw) fun v hv => huniq v ((contains_iff_covers s v a).mp hv)

/-- An entry allows a request's direction and class as R4 says. -/
theorem allows_iff (s : State) (m : MemRequest) (w : WindowId) :
    s.windows[w].allows m = true ↔ s.Allowed m w := by
  simp only [WindowEntry.allows, State.Allowed]
  cases m.direction <;> cases s.windows[w].privilegedOnly <;> simp

/-- A request that every check lets through is accepted through the entry it matches (R53). -/
theorem check_of_accepts {s : State} {m : MemRequest} {w : WindowId} (h : s.Accepts m w) : s.check m = .accepted w := by
  obtain ⟨⟨h1, h64, halign, hcov, huniq⟩, hinside, hallowed, hactive, hroom⟩ := h
  have length_ok : memLengthOk m.length = true := decide_eq_true ⟨h1, h64⟩
  have whole : s.windows[w].holdsWhole m = true := decide_eq_true hinside
  have allowed : s.windows[w].allows m = true := (allows_iff s m w).mpr hallowed
  simp only [State.check, length_ok, halign, lookup_of_covers hcov huniq, whole, allowed, hactive, EpState.refusal]
  simp
  exact hroom

/-- The snapshot taken through an entry is the one R5 gives. -/
theorem snapshot_isOf (x : WindowEntry) (w : WindowId) (m : MemRequest) : (x.snapshot w m).isOf w x m := by
  unfold WindowEntry.snapshot Snapshot.isOf
  cases hk : x.kind <;> cases hd : m.direction <;> simp

/-! ### A write's beats in its blocks (R7, R51) -/

/-- A place of the pool, as the beat it is of a block list. -/
theorem getElem?_eq_readBeat {bl : List BlockId} {k : Nat} {b : BlockId} (hb : bl[k / 8]? = some b) (pool : Pool) :
    (pool[b])[k % 8]? = some (readBeat bl k pool) := by
  have hk : k % 8 < 8 := by omega
  rw [readBeat_of_block hb, Vector.getElem?_eq_getElem hk]
  rfl

/-- Reading a beat after beats from `j` on are written: the one written there, or the one before. -/
theorem readBeat_writeBeats {bl : List BlockId} (hn : bl.Nodup) (ws : List Word) (j k : Nat) (pool : Pool)
    (hk : k / 8 < bl.length) : readBeat bl k (writeBeats bl j ws pool) =
      if j ≤ k then ws[k - j]?.getD (readBeat bl k pool) else readBeat bl k pool := by
  induction ws generalizing j pool with
  | nil => simp [writeBeats]
  | cons w ws ih =>
    rw [writeBeats, ih]
    rcases lt_trichotomy k j with h | rfl | h
    · rw [if_neg (by omega), if_neg (by omega), readBeat_writeBeat_other w pool hn hk h.ne]
    · rw [if_neg (by omega), if_pos le_rfl, readBeat_writeBeat_same w pool hk]
      simp
    · rw [if_pos (by omega), if_pos h.le, readBeat_writeBeat_other w pool hn hk h.ne',
        show k - j = k - (j + 1) + 1 by omega, List.getElem?_cons_succ]

/-- A place of the blocks after a write's beats are copied in: beat `k` of the write, or what stood there (R51). -/
theorem writeBeats_place {bl : List BlockId} (hn : bl.Nodup) (ws : List Word) (pool : Pool) {k : Nat} {b : BlockId}
    (hb : bl[k / 8]? = some b) :
    ((writeBeats bl 0 ws pool)[b])[k % 8]? = some (ws[k]?.getD (readBeat bl k pool)) := by
  obtain ⟨hk, -⟩ := List.getElem?_eq_some_iff.mp hb
  rw [getElem?_eq_readBeat hb, readBeat_writeBeats hn ws 0 k pool hk, if_pos (Nat.zero_le k), Nat.sub_zero]

/-! ### Acceptance (R55) -/

/-- MEM_READ and MEM_WRITE take the oldest MEM packet of their direction (R52). -/
theorem exec_memCommand (d : Direction) (s : State) : exec (memCommand d) s = unlessHeld s (takeMem d s) := by
  cases d <;> rfl

/-- A request that the checks let through is accepted into the lowest free slot (R52, R53, R55). -/
theorem exec_memCommand_of_accepts {s : State} {m : MemRequest} {rest : List MemRequest} {w : WindowId} {i : SlotId}
    (hs : s.resetHeld = false) (hm : s.memHanded = m :: rest) (hfree : s.LowestFree i) (hacc : s.Accepts m w) :
    exec (memCommand m.direction) s = accept m w i { s with memHanded := rest } := by
  have slot : ({ s with memHanded := rest } : State).lowestFreeSlot = some i := lowestFreeSlot_of_lowestFree hfree
  have check : ({ s with memHanded := rest } : State).check m = .accepted w := check_of_accepts hacc
  have taken : takeMem m.direction s = accept m w i { s with memHanded := rest } := by
    simp only [takeMem, hm, if_true, takeRequest, slot, check]
  rw [exec_memCommand, unlessHeld_of_high hs, taken]

end Sys2Proof.Machine
end

section
/-! PROOFS. O19: acceptance. -/

namespace Sys2Proof.Proofs

open Sys2Proof.Machine

/-- Settles O19: the request passes its checks into the lowest free slot, and the pool is as its beats leave it. -/
theorem memRequestAccepted : Obligations.MemRequestAccepted := by
  intro s m rest w i hs hm hfree hacc hnodup hblocks hbeats e n bl
  have hbl : bl.Nodup := hnodup.sublist (List.take_sublist _ _)
  have accepted := (exec_memCommand_of_accepts hs hm hfree hacc).trans
    (accept_of_blocks (s := { s with memHanded := rest }) w i hblocks)
  cases hd : m.direction with
  | read =>
    rw [hd] at accepted
    exact ⟨s.windows[w].snapshot w m, s.pool, snapshot_isOf _ _ _, fun _ => rfl, fun _ _ => rfl,
      fun h => Direction.noConfusion h, fun _ _ _ _ => rfl, accepted⟩
  | write =>
    rw [hd] at accepted
    refine ⟨s.windows[w].snapshot w m, writeBeats bl 0 m.beats s.pool, snapshot_isOf _ _ _,
      fun h => Direction.noConfusion h, fun b hb => writeBeats_other_block m.beats 0 s.pool hb,
      fun _ k b hk hb => ?_, fun k b hk hb => ?_, accepted⟩
    · have hlt : k < m.beats.length := hbeats hd ▸ hk
      rw [writeBeats_place hbl _ _ hb, List.getElem?_eq_getElem hlt, Option.getD_some]
    · have hge : m.beats.length ≤ k := hbeats hd ▸ hk
      rw [writeBeats_place hbl _ _ hb, List.getElem?_eq_none hge, Option.getD_none, getElem?_eq_readBeat hb]

end Sys2Proof.Proofs
end

section
/-! PROOFS. PHASE_END (chapter 4): what begins when a part or a unit ends, for each part, and the levels on the pins. -/

namespace Sys2Proof.Machine

/-! ### What stands in hand (R65) -/

theorem endpointInHand_of_inHand {s : State} {l : LaneId} {e : EndpointId} {i : SlotId} {sl : Slot} {t : Snapshot}
    (h : s.InHand l e i sl t) : s.endpointInHand s.engines[l] = s.endpoints[e] := by
  obtain ⟨he, -⟩ := h
  simp only [State.endpointInHand, he]

theorem slotInHand_of_inHand {s : State} {l : LaneId} {e : EndpointId} {i : SlotId} {sl : Slot} {t : Snapshot}
    (h : s.InHand l e i sl t) : s.slotInHand s.engines[l] = some (sl, t) := by
  obtain ⟨-, hi, rfl, ht⟩ := h
  simp only [State.slotInHand, hi, ht]

/-! ### The part that follows (R73) -/

theorem partPresent_command (sl : Slot) (t : Snapshot) : partPresent sl t .command = true ↔ t.cmd ≠ none := by
  simp [partPresent, Option.isSome_iff_ne_none]

theorem partPresent_address (sl : Slot) (t : Snapshot) :
    partPresent sl t .address = true ↔ 1 ≤ t.addrWidth.toNat ∧ t.addrWidth.toNat ≤ 4 := by
  simp [partPresent]

theorem partPresent_dummy (sl : Slot) (t : Snapshot) :
    partPresent sl t .dummy = true ↔ sl.direction = .read ∧ 1 ≤ t.dummy.toNat := by
  simp [partPresent]

/-- COMMAND follows LEAD when a command byte is present, and otherwise what follows COMMAND (R73). -/
theorem nextPart_lead (sl : Slot) (t : Snapshot) :
    nextPart sl t .lead = if t.cmd ≠ none then .command else nextPart sl t .command := by
  simp only [← partPresent_command sl, nextPart, partsAfter, List.find?_cons]
  cases partPresent sl t .command <;> simp

/-- ADDRESS follows COMMAND when there are 1 to 4 address bytes, and otherwise what follows ADDRESS (R73). -/
theorem nextPart_command (sl : Slot) (t : Snapshot) : nextPart sl t .command =
    if 1 ≤ t.addrWidth.toNat ∧ t.addrWidth.toNat ≤ 4 then .address else nextPart sl t .address := by
  simp only [← partPresent_address sl, nextPart, partsAfter, List.find?_cons]
  cases partPresent sl t .address <;> simp

/-- DUMMY follows ADDRESS on a read with dummy bit periods, and otherwise DATA (R73). -/
theorem nextPart_address (sl : Slot) (t : Snapshot) : nextPart sl t .address =
    if sl.direction = .read ∧ 1 ≤ t.dummy.toNat then .dummy else .data := by
  simp only [← partPresent_dummy sl, nextPart, partsAfter, List.find?_cons]
  cases partPresent sl t .dummy <;> simp [partPresent]

/-- What begins after ADDRESS: DUMMY on a read with dummy bit periods, and otherwise DATA (R73). -/
theorem begins_after_address {Q : Engine → Prop} {h : Engine} {sl : Slot} {t : Snapshot}
    (hq : Q (h.enterPart (nextPart sl t .address))) :
    (sl.direction = .read ∧ 1 ≤ t.dummy.toNat →
        Q { h with phase := some .dummy, unitCount := 0, between := false, unitOut := [false] }) ∧
      (¬ (sl.direction = .read ∧ 1 ≤ t.dummy.toNat) →
        Q { h with phase := some .data, unitCount := 0, between := true, unitOut := [] }) := by
  rw [nextPart_address] at hq
  constructor
  · intro hd
    rwa [if_pos hd] at hq
  · intro hd
    rwa [if_neg hd] at hq

/-- What begins after COMMAND: ADDRESS when there are 1 to 4 address bytes, and otherwise what begins after ADDRESS
(R73). -/
theorem begins_after_command {Q : Engine → Prop} {h : Engine} {sl : Slot} {t : Snapshot}
    (hq : Q (h.enterPart (nextPart sl t .command))) :
    (1 ≤ t.addrWidth.toNat ∧ t.addrWidth.toNat ≤ 4 →
        Q { h with phase := some .address, unitCount := 0, between := true, unitOut := [] }) ∧
      (¬ (1 ≤ t.addrWidth.toNat ∧ t.addrWidth.toNat ≤ 4) → Q (h.enterPart (nextPart sl t .address))) := by
  rw [nextPart_command] at hq
  constructor
  · intro ha
    rwa [if_pos ha] at hq
  · intro ha
    rwa [if_neg ha] at hq

/-! ### The end of a unit (R65, R73, R80) -/

/-- TRAIL entered from a unit: none is between two of them. -/
theorem enterTrail_of_running {g : Engine} (hb : g.between = false) :
    g.enterTrail = { g with phase := some .trail, unitCount := 0, unitOut := [] } := by
  rw [enterTrail_eq, ← hb]

/-- The next dummy bit period after one: LnDO is low (R73). -/
theorem beforeUnit_dummy_of_running {g : Engine} (hb : g.between = false) :
    g.beforeUnit .dummy = { g with unitOut := [false] } := by
  simp only [Engine.beforeUnit, Phase.hasUnits, ← hb, if_true]

/-- Under a cut TRAIL follows the byte or bit period in flight (R80). -/
theorem afterUnit_of_cut (s : State) {g : Engine} (p : Phase) (hb : g.between = false) (hc : g.cut ≠ .none) :
    s.afterUnit g p = { g.unitDone with phase := some .trail, unitCount := 0, unitOut := [] } := by
  have running : ({ g.unitDone with unitCount := g.unitCount + 1 } : Engine).between = false := hb
  simp only [State.afterUnit, if_pos hc, enterTrail_of_running running]

/-- The next part begins when a part ends with a slot in hand (R73). -/
theorem afterPart_of_hand {s : State} {g : Engine} {sl : Slot} {t : Snapshot} (p : Phase)
    (ht : s.slotInHand g = some (sl, t)) : s.afterPart g p = g.enterPart (nextPart sl t p) := by
  simp only [State.afterPart, ht]

/-- The next unit's levels are latched as it begins, and a data word leaves those not yet begun (R65, R75). -/
theorem beginUnit_of_hand {s : State} {g : Engine} {sl : Slot} {t : Snapshot} (p : Phase)
    (ht : s.slotInHand g = some (sl, t)) : s.beginUnit g p = { g with
      between := false, unitOut := s.unitBits g sl t p g.nextUnit
      wordsLeft := if p = .data then g.wordsLeft - 1 else g.wordsLeft } := by
  simp only [State.beginUnit, ht]

/-- Bytes or bit periods that the part still has come next, unitCount counting those complete (R65, R73). -/
theorem afterUnit_of_more {s : State} {g : Engine} {sl : Slot} {t : Snapshot} {p : Phase} (hc : g.cut = .none)
    (ht : s.slotInHand g = some (sl, t)) (hn : g.unitCount + 1 < unitsOf t p) :
    s.afterUnit g p = ({ g.unitDone with unitCount := g.unitCount + 1 } : Engine).beforeUnit p := by
  have not_cut : ¬ g.cut ≠ .none := not_not.mpr hc
  simp only [State.afterUnit, if_neg not_cut, ht, if_pos hn]

/-- After the part's last byte or bit period the next part begins (R73). -/
theorem afterUnit_of_last {s : State} {g : Engine} {sl : Slot} {t : Snapshot} {p : Phase} (hc : g.cut = .none)
    (ht : s.slotInHand g = some (sl, t)) (hn : unitsOf t p ≤ g.unitCount + 1) :
    s.afterUnit g p = g.unitDone.enterPart (nextPart sl t p) := by
  have not_cut : ¬ g.cut ≠ .none := not_not.mpr hc
  have counted : s.slotInHand { g.unitDone with unitCount := g.unitCount + 1 } = some (sl, t) := ht
  simp only [State.afterUnit, if_neg not_cut, ht, if_neg (not_lt.mpr hn), afterPart_of_hand p counted]
  rfl

/-- After the bit periods of a late word TRAIL follows under a cut or after the last word (R72, R80). -/
theorem afterLateWord_of_end {g : Engine} (hb : g.between = false) (h : g.cut ≠ .none ∨ g.wordsLeft = 0) :
    g.afterLateWord = { g.unitDone with
      completing := some g.unitCount, phase := some .trail, unitCount := 0, unitOut := [] } := by
  have running : ({ g.unitDone with completing := some g.unitCount } : Engine).between = false := hb
  rw [← enterTrail_of_running running]
  exact if_pos (h.imp_right .inl)

/-- After the bit periods of a late word the next word is awaited (R72, R73). -/
theorem afterLateWord_of_more {g : Engine} (hc : g.cut = .none) (hw : 1 ≤ g.wordsLeft) (hi : g.currentSlot ≠ none) :
    g.afterLateWord = { g.unitDone with completing := some g.unitCount, between := true, unitOut := [] } := by
  refine if_neg ?_
  rintro (h | h | h)
  · exact h hc
  · have : g.wordsLeft = 0 := h
    omega
  · exact hi h

/-! ### PHASE_END by part (R73, R80) -/

/-- PHASE_END makes the engine of lane `l` into `h` and changes nothing else. -/
def State.PhaseEndGives (s : State) (l : LaneId) (h : Engine) : Prop :=
  exec (.phaseEnd l) s = .next { s with engines := s.engines.set l h }

section

variable {s : State} {l : LaneId} (hs : s.resetHeld = false) (hg : s.engines[l].engineState = .shifting)
include hs hg

/-- Between two units the next one begins (R73, R80). -/
theorem phaseEndGives_between {p : Phase} (hp : s.engines[l].phase = some p) (hb : s.engines[l].between = true) :
    s.PhaseEndGives l (s.beginUnit s.engines[l] p) := by
  show unlessHeld s _ = _
  simp only [unlessHeld_of_high hs, hg, hp, hb, if_true, State.setEngine]

/-- LEAD ends (R73). -/
theorem phaseEndGives_lead (hp : s.engines[l].phase = some .lead) (hb : s.engines[l].between = false) :
    s.PhaseEndGives l (s.afterPart s.engines[l] .lead) := by
  show unlessHeld s _ = _
  simp only [unlessHeld_of_high hs, hg, hp, hb, Bool.false_eq_true, if_false, State.setEngine]

/-- A command byte, an address byte or a dummy bit period ends (R73). -/
theorem phaseEndGives_unit {p : Phase} (hu : p = .command ∨ p = .address ∨ p = .dummy)
    (hp : s.engines[l].phase = some p) (hb : s.engines[l].between = false) :
    s.PhaseEndGives l (s.afterUnit s.engines[l] p) := by
  show unlessHeld s _ = _
  obtain rfl | rfl | rfl := hu <;>
    simp only [unlessHeld_of_high hs, hg, hp, hb, Bool.false_eq_true, if_false, State.setEngine]

/-- The bit periods of a read word whose last input comes later end (R72, R73). -/
theorem phaseEndGives_lateWord (hp : s.engines[l].phase = some .data) (hb : s.engines[l].between = false)
    (hlate : s.engines[l].late = true) (hcomp : s.engines[l].completing = none) :
    s.PhaseEndGives l s.engines[l].afterLateWord := by
  show unlessHeld s _ = _
  simp only [unlessHeld_of_high hs, hg, hp, hb, hlate, hcomp, Bool.false_eq_true, if_false, and_self, if_true,
    State.setEngine]

/-- In TRAIL, and for a word in DATA that WORD_COMPLETE ends, it is no event (assumption 2). -/
theorem exec_phaseEnd_no_event (hb : s.engines[l].between = false)
    (hno : s.engines[l].phase = some .trail ∨
      s.engines[l].phase = some .data ∧ (s.engines[l].late = false ∨ s.engines[l].completing ≠ none)) :
    exec (.phaseEnd l) s = .next s := by
  show unlessHeld s _ = _
  obtain hp | ⟨hp, hlate⟩ := hno
  · simp only [unlessHeld_of_high hs, hg, hp, hb, Bool.false_eq_true, if_false]
  · have not_late : ¬ (s.engines[l].late = true ∧ s.engines[l].completing = none) := by
      rintro ⟨h1, h2⟩
      exact hlate.elim (fun h => Bool.noConfusion (h.symm.trans h1)) fun h => h h2
    simp only [unlessHeld_of_high hs, hg, hp, hb, Bool.false_eq_true, if_false, not_late]

end

/-- Outside SHIFTING it is no event (assumption 2). -/
theorem exec_phaseEnd_outside {s : State} {l : LaneId} (hs : s.resetHeld = false)
    (hg : s.engines[l].engineState ≠ .shifting) : exec (.phaseEnd l) s = .next s := by
  show unlessHeld s _ = _
  rw [unlessHeld_of_high hs]
  split
  · next h _ => exact absurd h hg
  · rfl

/-! ### The levels on the pins (R70, R71, R74) -/

/-- A byte goes out bit by bit, in its bit order (R74). -/
theorem bitsOut_byte (o : BitOrder) (w : Word) (j : Fin 8) : (bitsOut o 8 w).length = 8 ∧
    (bitsOut o 8 w)[j.val]? = some (w.getLsbD (if o = .lsbFirst then j.val else 7 - j.val)) := by
  cases o <;> simp [bitsOut]

/-- LnCLK is clocking while a byte, a word or a dummy bit period is shifted (R70, R73). -/
theorem clocking_iff (g : Engine) : g.clocking = true ↔ g.engineState = .shifting ∧ g.between = false ∧
    (g.phase = some .command ∨ g.phase = some .address ∨ g.phase = some .dummy ∨ g.phase = some .data) := by
  unfold Engine.clocking
  rcases g.phase with _ | p
  · simp
  · cases p <;> simp

/-- While LnCLK is idle it stands at its idle level and LnDO is low (R66, R70). -/
theorem levels_of_idle {g : Engine} (h : g.clocking = false) (mode : BitVec 2) (n k : Nat) :
    g.clockLevelAt k = g.idleLevel ∧ g.dataLevelAt mode n k = false := by
  simp [Engine.clockLevelAt, Engine.dataLevelAt, h]

/-- LnCLK leaves its idle level at div and returns at twice div (R70). -/
theorem clockLevelAt_of_clocking {g : Engine} (h : g.clocking = true) (k : Nat) :
    (k < g.div.toNat → g.clockLevelAt k = g.idleLevel) ∧
      (g.div.toNat ≤ k → k < 2 * g.div.toNat → g.clockLevelAt k = !g.idleLevel) := by
  refine ⟨fun hk => ?_, fun hk hk2 => ?_⟩
  · simp [Engine.clockLevelAt, not_le.mpr hk]
  · simp [Engine.clockLevelAt, bitPeriodClocks, h, hk, hk2]

/-- LnDO takes a bit's level from the moment it changes on: the start of the bit period in modes 0 and 2, the leading
edge in modes 1 and 3 (R71). -/
theorem dataLevelAt_of_changed {g : Engine} (h : g.clocking = true) {mode : BitVec 2} {n k : Nat}
    (hk : mode = 0 ∨ mode = 2 ∨ g.div.toNat ≤ k) : g.dataLevelAt mode n k = g.unitOut.getD n false := by
  have changed : ¬ k < outputChangesAt mode g.div := by
    unfold outputChangesAt
    rcases hk with rfl | rfl | hk
    · simp
    · simp
    · split <;> omega
  simp [Engine.dataLevelAt, h, changed]

/-- In modes 1 and 3 LnDO keeps the level before until the leading edge (R71, assumption 35). -/
theorem dataLevelAt_of_before {g : Engine} (h : g.clocking = true) {mode : BitVec 2} {k : Nat}
    (hm : mode = 1 ∨ mode = 3) (hk : k < g.div.toNat) (n : Nat) : g.dataLevelAt mode n k = g.levelBefore n := by
  have before : k < outputChangesAt mode g.div := by
    unfold outputChangesAt
    rcases hm with rfl | rfl <;> simpa using hk
  simp [Engine.dataLevelAt, h, before]

/-! ### PHASE_END with a slot in hand -/

section

variable {s : State} {l : LaneId} {e : EndpointId} {i : SlotId} {sl : Slot} {t : Snapshot} (hs : s.resetHeld = false)
  (hin : s.InHand l e i sl t) (hg : s.engines[l].engineState = .shifting)
include hs hin hg

/-- LEAD ends: the first present part begins (R73). -/
theorem phaseEndGives_firstPart (hp : s.engines[l].phase = some .lead) (hb : s.engines[l].between = false) :
    s.PhaseEndGives l (s.engines[l].enterPart (nextPart sl t .lead)) :=
  afterPart_of_hand .lead (slotInHand_of_inHand hin) ▸ phaseEndGives_lead hs hg hp hb

/-- The last unit of a part ends: the part that follows begins (R73). -/
theorem phaseEndGives_nextPart {p : Phase} (hu : p = .command ∨ p = .address ∨ p = .dummy)
    (hp : s.engines[l].phase = some p) (hb : s.engines[l].between = false) (hc : s.engines[l].cut = .none)
    (hn : unitsOf t p ≤ s.engines[l].unitCount + 1) :
    s.PhaseEndGives l (s.engines[l].unitDone.enterPart (nextPart sl t p)) :=
  afterUnit_of_last hc (slotInHand_of_inHand hin) hn ▸ phaseEndGives_unit hs hg hu hp hb

/-- A unit of a part ends that has more: the next one is awaited, unitCount counting those complete (R65, R73). -/
theorem phaseEndGives_nextUnit {p : Phase} (hu : p = .command ∨ p = .address ∨ p = .dummy)
    (hp : s.engines[l].phase = some p) (hb : s.engines[l].between = false) (hc : s.engines[l].cut = .none)
    (hn : s.engines[l].unitCount + 1 < unitsOf t p) : s.PhaseEndGives l
      (({ s.engines[l].unitDone with unitCount := s.engines[l].unitCount + 1 } : Engine).beforeUnit p) :=
  afterUnit_of_more hc (slotInHand_of_inHand hin) hn ▸ phaseEndGives_unit hs hg hu hp hb

/-- Between two units the next one begins with its levels latched (R65, R73 to R75). -/
theorem phaseEndGives_unitBegun {p : Phase} (hp : s.engines[l].phase = some p) (hb : s.engines[l].between = true) :
    s.PhaseEndGives l { s.engines[l] with
      between := false, unitOut := s.unitBits s.engines[l] sl t p s.engines[l].nextUnit
      wordsLeft := if p = .data then s.engines[l].wordsLeft - 1 else s.engines[l].wordsLeft } :=
  beginUnit_of_hand p (slotInHand_of_inHand hin) ▸ phaseEndGives_between hs hg hp hb

end

end Sys2Proof.Machine
end

section
/-! PROOFS. O49: PHASE_END. -/

namespace Sys2Proof.Proofs

open Sys2Proof.Machine

/-- Settles O49: each part by the rule of its end, the part that follows by `nextPart`, the pins by their formulas. -/
theorem phaseEnd : Obligations.PhaseEnd := by
  refine ⟨fun s l e i sl t hs hin hg => ⟨fun hb hc => ?_, fun hb => ?_⟩, fun s l hs => ?_, bitsOut_byte,
    fun g mode k n => ⟨clocking_iff g, fun h => levels_of_idle h mode n k, fun h => ?_⟩⟩
  · have slot_held : s.engines[l].currentSlot ≠ none := by
      obtain ⟨-, hi, -⟩ := hin
      simp only [hi, ne_eq, reduceCtorEq, not_false_iff]
    refine ⟨fun hp => ?_, fun hp => ?_, fun hp hn => ?_, fun hp hn => ?_, fun hp hn => ?_, fun hp hn => ?_,
      fun hp hlate hcomp hw => ?_, fun hp hlate hcomp hw => ?_⟩
    · have h := phaseEndGives_firstPart hs hin hg hp hb
      rw [nextPart_lead] at h
      refine ⟨fun hcmd => ?_, fun hcmd => ?_⟩
      · rwa [if_pos hcmd] at h
      · rw [if_neg (not_not.mpr hcmd)] at h
        exact (begins_after_command h).imp_right fun k ha => begins_after_address (k ha)
    · have h := phaseEndGives_nextPart hs hin hg (.inl rfl) hp hb hc (by simp [unitsOf])
      exact (begins_after_command h).imp_right fun k ha => begins_after_address (k ha)
    · exact phaseEndGives_nextUnit hs hin hg (p := .address) (.inr (.inl rfl)) hp hb hc hn
    · exact begins_after_address (phaseEndGives_nextPart hs hin hg (.inr (.inl rfl)) hp hb hc hn)
    · have h := phaseEndGives_nextUnit hs hin hg (p := .dummy) (.inr (.inr rfl)) hp hb hc hn
      rw [beforeUnit_dummy_of_running
        (g := { s.engines[l].unitDone with unitCount := s.engines[l].unitCount + 1 }) hb] at h
      exact h
    · exact phaseEndGives_nextPart hs hin hg (p := .dummy) (.inr (.inr rfl)) hp hb hc hn
    · exact afterLateWord_of_more hc hw slot_held ▸ phaseEndGives_lateWord hs hg hp hb hlate hcomp
    · exact afterLateWord_of_end hb (.inr hw) ▸ phaseEndGives_lateWord hs hg hp hb hlate hcomp
  · have hd := endpointInHand_of_inHand hin
    refine ⟨fun b hp hcmd => ?_, fun hp hcomp => ?_, fun hp => ?_⟩
    · have h := phaseEndGives_unitBegun hs hin hg hp hb
      simp only [State.unitBits, hd, hcmd] at h
      exact h
    · have h := phaseEndGives_unitBegun hs hin hg hp hb
      have counted : s.engines[l].nextUnit = s.engines[l].unitCount := by simp only [Engine.nextUnit, hcomp]
      simp only [State.unitBits, hd, counted] at h
      exact h
    · exact phaseEndGives_unitBegun hs hin hg hp hb
  · refine ⟨fun hg hb hc hp => ?_, fun hg hb hc hp hlate hcomp => ?_, fun h => ?_⟩
    · obtain ⟨p, hu, hp⟩ : ∃ p : Phase, (p = .command ∨ p = .address ∨ p = .dummy) ∧ s.engines[l].phase = some p := by
        simpa [or_and_right, exists_or] using hp
      exact afterUnit_of_cut s p hb hc ▸ phaseEndGives_unit hs hg hu hp hb
    · exact afterLateWord_of_end hb (.inl hc) ▸ phaseEndGives_lateWord hs hg hp hb hlate hcomp
    · by_cases hg : s.engines[l].engineState = .shifting
      · obtain ⟨hb, hno⟩ := h.resolve_left (not_not.mpr hg)
        exact exec_phaseEnd_no_event hs hg hb hno
      · exact exec_phaseEnd_outside hs hg
  · obtain ⟨hlow, hhigh⟩ := clockLevelAt_of_clocking h k
    exact ⟨hlow, hhigh, dataLevelAt_of_changed h,
      fun hm hk => ⟨dataLevelAt_of_before h hm hk (n + 1), dataLevelAt_of_before h hm hk 0⟩⟩

end Sys2Proof.Proofs
end

section
/-! PROOFS. The Endpoint Table and the lane engines through the operations that leave them (chapters 2, 4 and 5). -/

namespace Sys2Proof.Machine

/-- What the lanes' law speaks of: the Endpoint Table and the lane engines. -/
def State.lanes (s : State) : Vector Descriptor 16 × Vector Engine 4 := (s.endpoints, s.engines)

/-- Equal lanes are equal tables. -/
theorem lanes_eq_iff (s t : State) : t.lanes = s.lanes ↔ t.endpoints = s.endpoints ∧ t.engines = s.engines :=
  Prod.mk.injEq .. |>.to_iff

variable (s : State)

@[simp] theorem setLink_lanes (k : LinkPort) : (s.setLink k).lanes = s.lanes := rfl

@[simp] theorem setSlot_lanes (i : SlotId) (x : Slot) : (s.setSlot i x).lanes = s.lanes := rfl

@[simp] theorem setQueue_lanes (e : EndpointId) (q : List SlotId) : (s.setQueue e q).lanes = s.lanes := rfl

@[simp] theorem setCompletion_lanes (e : EndpointId) (q : List SlotId) : (s.setCompletion e q).lanes = s.lanes := rfl

@[simp] theorem setAttn_lanes (e : EndpointId) (r : AttnRecord) : (s.setAttn e r).lanes = s.lanes := rfl

@[simp] theorem freeSlot_lanes (i : SlotId) : (s.freeSlot i).lanes = s.lanes := rfl

@[simp] theorem clearFences_lanes (i : SlotId) : (s.clearFences i).lanes = s.lanes := rfl

@[simp] theorem enterReplayBuffer_lanes (b : SeqBody) : (s.enterReplayBuffer b).lanes = s.lanes := rfl

@[simp] theorem grantCredits_lanes (a b c : Nat) : (s.grantCredits a b c).lanes = s.lanes := by
  rw [grantCredits_frame]; rfl

@[simp] theorem addNotice_lanes (n : Notice) : (s.addNotice n).lanes = s.lanes := by
  rw [addNotice_frame]; rfl

@[simp] theorem noteMalformed_lanes : s.noteMalformed.lanes = s.lanes := by
  simp [State.noteMalformed]

@[simp] theorem endSlot_lanes (e : EndpointId) (i : SlotId) (x : MemStatus) : (s.endSlot e i x).lanes = s.lanes := by
  rw [endSlot_frame]; rfl

@[simp] theorem abortQueue_lanes (e : EndpointId) : (s.abortQueue e).lanes = s.lanes := by
  rw [abortQueue_frame]; rfl

@[simp] theorem judgeLevel_lanes (e : EndpointId) : (s.judgeLevel e).lanes = s.lanes := by
  rcases judgeLevel_cases s e with ⟨-, -, -, h⟩ | h <;> simp [h]

@[simp] theorem wordDone_lanes (g : Engine) (j : Nat) (din : Word) : (s.wordDone g j din).lanes = s.lanes := by
  rw [wordDone_frame]; rfl

@[simp] theorem creditCheck_lanes (r : Request) : (s.creditCheck r).lanes = s.lanes := by
  unfold State.creditCheck State.overrun State.consumeCredits
  cases r with
  | mem m =>
    dsimp only
    split_ifs
    · simp
    · simp
    · rfl
  | cfg c =>
    dsimp only
    split_ifs
    · simp
    · rfl

@[simp] theorem acceptPacket_lanes (p : HostPacket) : (s.acceptPacket p).lanes = s.lanes := by
  unfold State.acceptPacket
  dsimp only
  split <;> simp

@[simp] theorem judgeSequence_lanes (p : HostPacket) : (s.judgeSequence p).lanes = s.lanes := by
  unfold State.judgeSequence
  dsimp only
  split_ifs <;> simp

theorem refuseNonPosted_lanes (m : MemRequest) (x : MemStatus) (i : SlotId) :
    (refuseNonPosted m x i s).lanes = s.lanes :=
  grantCredits_lanes ..

theorem refusePosted_lanes (m : MemRequest) (x : MemStatus) (e : EndpointId) (i : SlotId) :
    (refusePosted m x e i s).lanes = s.lanes := by
  simp [refusePosted]

theorem refuse_lanes (m : MemRequest) (x : MemStatus) (w : Option WindowId) (i : SlotId) :
    (refuse m x w i s).lanes = s.lanes := by
  unfold refuse
  split
  · split
    · exact refusePosted_lanes ..
    · exact refuseNonPosted_lanes ..
  · exact refuseNonPosted_lanes ..
  · exact refuseNonPosted_lanes ..

theorem sendImmediate_lanes (i : SlotId) : (s.sendImmediate i).lanes = s.lanes := by
  rw [State.sendImmediate, grantCredits_lanes]
  rfl

theorem sendCompletion_lanes (e : EndpointId) (i : SlotId) : (s.sendCompletion e i).lanes = s.lanes := by
  rw [State.sendCompletion, grantCredits_lanes, clearFences_lanes, freeSlot_lanes, setCompletion_lanes]
  rfl

/-! ### The two tables one by one -/

@[simp] theorem endSlot_endpoints (e : EndpointId) (i : SlotId) (x : MemStatus) :
    (s.endSlot e i x).endpoints = s.endpoints :=
  congrArg Prod.fst (endSlot_lanes s e i x)

@[simp] theorem endSlot_engines (e : EndpointId) (i : SlotId) (x : MemStatus) :
    (s.endSlot e i x).engines = s.engines :=
  congrArg Prod.snd (endSlot_lanes s e i x)

@[simp] theorem abortQueue_endpoints (e : EndpointId) : (s.abortQueue e).endpoints = s.endpoints :=
  congrArg Prod.fst (abortQueue_lanes s e)

@[simp] theorem abortQueue_engines (e : EndpointId) : (s.abortQueue e).engines = s.engines :=
  congrArg Prod.snd (abortQueue_lanes s e)

end Sys2Proof.Machine
end

section
/-! PROOFS. The lanes' law (R27, R86, R95) under a change of one engine and of one descriptor, and through the shared
operations that change them. -/

namespace Sys2Proof.Machine

/-! ### The law of one engine -/

/-- The engine of lane `l` serves endpoint `e` as R86, R93 and R95 ask of an engine inside a transaction. -/
structure State.Serves (s : State) (l : LaneId) (e : EndpointId) : Prop where
  current : s.engines[l].currentEndpoint = some e
  lane : s.endpoints[e].lane = l
  selects : s.engines[l].selects = selectAsserted s.endpoints[e].select
  running : s.endpoints[e].state = .active ∨ s.endpoints[e].state = .draining ∨ s.endpoints[e].state = .stopping
  waiting : s.engines[l].engineState = .waitReady → s.engines[l].cut = .none ∧ s.endpoints[e].state ≠ .stopping

/-- An engine's law: it serves an endpoint inside a transaction, and asserts no select outside one. -/
theorem engineLawful_iff (s : State) (l : LaneId) : s.engineLawful l ↔
    (s.engines[l].inTransaction = true → ∃ e, s.Serves l e) ∧
      (s.engines[l].inTransaction = false → s.engines[l].selects = selectsReleased) := by
  unfold State.engineLawful
  cases s.engines[l].inTransaction
  · simp
  · simp only [if_true, true_imp_iff, Bool.true_eq_false, false_imp_iff, and_true]
    exact exists_congr fun e => ⟨fun ⟨h1, h2, h3, h4, h5⟩ => ⟨h1, h2, h3, h4, h5⟩,
      fun ⟨h1, h2, h3, h4, h5⟩ => ⟨h1, h2, h3, h4, h5⟩⟩

/-- The lanes' law speaks of the Endpoint Table and the engines alone. -/
theorem laneLaw_congr {s t : State} (h : t.lanes = s.lanes) (hs : s.laneLaw) : t.laneLaw := by
  obtain ⟨he, hg⟩ := (lanes_eq_iff s t).mp h
  unfold State.laneLaw State.engineLawful at *
  rwa [he, hg]

/-- Under the law an engine inside a transaction serves its current endpoint (R86). -/
theorem serves_of_laneLaw {s : State} {l : LaneId} {e : EndpointId} (hs : s.laneLaw)
    (hin : s.engines[l].inTransaction = true) (he : s.engines[l].currentEndpoint = some e) : s.Serves l e := by
  obtain ⟨d, hd⟩ := ((engineLawful_iff s l).mp (hs.1 l)).1 hin
  obtain rfl : d = e := Option.some.inj (hd.current.symm.trans he)
  exact hd

/-- No engine is inside a transaction for endpoint `e`. -/
def State.Unserved (s : State) (e : EndpointId) : Prop :=
  ∀ l : LaneId, s.engines[l].inTransaction = true → s.engines[l].currentEndpoint ≠ some e

/-- Under the law no engine serves an endpoint that is DISABLED or HALTED (R86). -/
theorem unserved_of_state {s : State} {e : EndpointId} (hs : s.laneLaw)
    (h : s.endpoints[e].state = .disabled ∨ s.endpoints[e].state = .halted) : s.Unserved e := by
  intro l hin he
  have running := (serves_of_laneLaw hs hin he).running
  rcases h with h | h <;> rw [h] at running <;> simp at running

/-- Under the law only the engine of its own lane can serve an endpoint (R86). -/
theorem unserved_of_not_inside {s : State} {e : EndpointId} (hs : s.laneLaw) (h : s.inside e = false) :
    s.Unserved e := by
  intro l hin he
  have hl := (serves_of_laneLaw hs hin he).lane
  have inside : s.inside e = true := by
    simp only [State.inside, insideFor, hl, hin, he, decide_true, Bool.and_self]
  exact Bool.noConfusion (h.symm.trans inside)

/-! ### One engine changed -/

/-- A change of one engine keeps the law when the new engine is lawful. -/
theorem laneLaw_setEngine {s : State} {l : LaneId} {g : Engine} (hs : s.laneLaw)
    (hg : (s.setEngine l g).engineLawful l) : (s.setEngine l g).laneLaw := by
  refine ⟨fun k => ?_, hs.2⟩
  by_cases hk : l = k
  · exact hk ▸ hg
  · simpa only [State.engineLawful, State.setEngine_engines, State.setEngine_endpoints, get_set_other _ _ _ _ hk]
      using hs.1 k

/-- An engine outside a transaction with every select released keeps the law (R86). -/
theorem laneLaw_setEngine_of_released {s : State} {l : LaneId} {g : Engine} (hs : s.laneLaw)
    (hin : g.inTransaction = false) (hsel : g.selects = selectsReleased) : (s.setEngine l g).laneLaw :=
  laneLaw_setEngine hs (by
    simp only [engineLawful_iff, State.setEngine_engines, get_set_same, hin, hsel, Bool.false_eq_true, false_imp_iff,
      true_imp_iff, and_self])

/-- An engine inside a transaction that serves its endpoint keeps the law (R86). -/
theorem laneLaw_setEngine_of_serves {s : State} {l : LaneId} {g : Engine} {e : EndpointId} (hs : s.laneLaw)
    (hin : g.inTransaction = true) (hserve : (s.setEngine l g).Serves l e) : (s.setEngine l g).laneLaw :=
  laneLaw_setEngine hs (by
    simp only [engineLawful_iff, State.setEngine_engines, get_set_same, hin, Bool.true_eq_false, false_imp_iff,
      true_imp_iff, and_true]
    exact ⟨e, hserve⟩)

/-- An engine that stays in SHIFTING for its endpoint, its select asserted, keeps the law (R95). -/
theorem laneLaw_setEngine_of_shifting {s : State} {l : LaneId} {g : Engine} (hs : s.laneLaw)
    (hin : s.engines[l].inTransaction = true) (hg : g.engineState = .shifting)
    (hcur : g.currentEndpoint = s.engines[l].currentEndpoint) (hsel : g.selects = s.engines[l].selects) :
    (s.setEngine l g).laneLaw := by
  obtain ⟨e, he⟩ := ((engineLawful_iff s l).mp (hs.1 l)).1 hin
  refine laneLaw_setEngine_of_serves hs (e := e) (by simp [Engine.inTransaction, hg]) ⟨?_, he.lane, ?_, he.running, ?_⟩
  · simp only [State.setEngine_engines, get_set_same, hcur, he.current]
  · simp only [State.setEngine_engines, State.setEngine_endpoints, get_set_same, hsel, he.selects]
  · simp only [State.setEngine_engines, get_set_same, hg, reduceCtorEq, false_imp_iff]

/-! ### One descriptor changed -/

/-- Descriptor `d` put at place `e` shares its lane and select with no other endpoint that is not DISABLED, unless it is
DISABLED itself (R27). -/
def State.Separate (s : State) (e : EndpointId) (d : Descriptor) : Prop :=
  d.state ≠ .disabled → ∀ x : EndpointId, x ≠ e → s.endpoints[x].state ≠ .disabled → s.endpoints[x].lane = d.lane →
    s.endpoints[x].select ≠ d.select

/-- A DISABLED descriptor is separate from every other. -/
theorem separate_of_disabled (s : State) (e : EndpointId) {d : Descriptor} (h : d.state = .disabled) :
    s.Separate e d :=
  fun hne => absurd h hne

/-- Under the law a descriptor keeps apart from the others while it keeps its lane and select, once it is not DISABLED
(R27). -/
theorem separate_of_laneLaw {s : State} {e : EndpointId} {d : Descriptor} (hs : s.laneLaw)
    (hst : s.endpoints[e].state ≠ .disabled) (hlane : d.lane = s.endpoints[e].lane)
    (hsel : d.select = s.endpoints[e].select) : s.Separate e d :=
  fun _ x hxe hx hl => hsel ▸ hs.2 x e hxe hx hst (hl.trans hlane)

/-- A change of one descriptor keeps the law when it stays apart from the others and every engine that served it still
does. -/
theorem laneLaw_setDescriptor {s : State} {e : EndpointId} {d : Descriptor} (hs : s.laneLaw) (hsep : s.Separate e d)
    (hserve : ∀ l : LaneId, s.engines[l].inTransaction = true → s.Serves l e → (s.setDescriptor e d).Serves l e) :
    (s.setDescriptor e d).laneLaw := by
  refine ⟨fun l => ?_, fun x y hxy => ?_⟩
  · obtain ⟨served, released⟩ := (engineLawful_iff s l).mp (hs.1 l)
    refine (engineLawful_iff ..).mpr ⟨fun hin => ?_, released⟩
    obtain ⟨x, hx⟩ := served hin
    by_cases hxe : e = x
    · exact ⟨e, hserve l hin (hxe ▸ hx)⟩
    · refine ⟨x, hx.current, ?_, ?_, ?_, ?_⟩ <;>
        simp only [State.setDescriptor_endpoints, State.setDescriptor_engines, get_set_other _ _ _ _ hxe]
      exacts [hx.lane, hx.selects, hx.running, hx.waiting]
  · simp only [State.setDescriptor_endpoints, get_set]
    split <;> split
    · next h1 h2 => exact absurd (h1.symm.trans h2) hxy
    · next h1 h2 => exact fun hd hy hl hsel => hsep hd y (Ne.symm h2) hy hl.symm hsel.symm
    · next h1 h2 => exact fun hx hd hl => hsep hd x (Ne.symm h1) hx hl
    · exact hs.2 x y hxy

/-- A change of a descriptor that no engine serves keeps the law when it stays apart from the others. -/
theorem laneLaw_setDescriptor_of_unserved {s : State} {e : EndpointId} {d : Descriptor} (hs : s.laneLaw)
    (hsep : s.Separate e d) (hu : s.Unserved e) : (s.setDescriptor e d).laneLaw :=
  laneLaw_setDescriptor hs hsep fun l hin hse => absurd hse.current (hu l hin)

/-- A change of a descriptor that keeps its lane, select and state keeps the law. -/
theorem laneLaw_setDescriptor_of_same {s : State} {e : EndpointId} {d : Descriptor} (hs : s.laneLaw)
    (hlane : d.lane = s.endpoints[e].lane) (hsel : d.select = s.endpoints[e].select)
    (hst : d.state = s.endpoints[e].state) : (s.setDescriptor e d).laneLaw := by
  refine laneLaw_setDescriptor hs (fun hne => separate_of_laneLaw hs (hst ▸ hne) hlane hsel hne) fun l _ hse => ?_
  refine ⟨hse.current, ?_, ?_, ?_, ?_⟩ <;>
    simp only [State.setDescriptor_endpoints, State.setDescriptor_engines, get_set_same, hlane, hsel, hst]
  exacts [hse.lane, hse.selects, hse.running, hse.waiting]

/-- An endpoint that becomes DRAINING or STOPPING keeps the law, STOPPING while its lane's engine is not in WAIT_READY
(R86, R93). -/
theorem laneLaw_setEpState {s : State} {e : EndpointId} {x : EpState} (hs : s.laneLaw)
    (hst : s.endpoints[e].state ≠ .disabled) (hx : x = .draining ∨ x = .stopping)
    (hwait : x = .stopping → s.engines[s.endpoints[e].lane].engineState ≠ .waitReady) : (s.setEpState e x).laneLaw := by
  refine laneLaw_setDescriptor hs (separate_of_laneLaw hs hst rfl rfl) fun l _ hse => ⟨hse.current, ?_, ?_, ?_, ?_⟩ <;>
    simp only [State.setDescriptor_endpoints, State.setDescriptor_engines, get_set_same]
  · exact hse.lane
  · exact hse.selects
  · exact .inr hx
  · exact fun hw => ⟨(hse.waiting hw).1, fun h => hwait h (hse.lane ▸ hw)⟩

/-! ### The operations that change endpoint states -/

/-- Endpoint e entering DISABLED keeps the law when no engine serves it (R26, R86). -/
theorem enterDisabled_laneLaw {s : State} {e : EndpointId} (hs : s.laneLaw) (hu : s.Unserved e) :
    (s.enterDisabled e).laneLaw :=
  laneLaw_congr (setAttn_lanes ..) (laneLaw_setDescriptor_of_unserved hs (separate_of_disabled s e rfl) hu)

/-- R34 keeps the law when no engine serves the endpoint. -/
theorem drainIfEmpty_laneLaw {s : State} {e : EndpointId} (hs : s.laneLaw) (hu : s.Unserved e) :
    (s.drainIfEmpty e).laneLaw := by
  rcases drainIfEmpty_cases s e with ⟨-, -, h⟩ | ⟨-, h⟩ <;> rw [h]
  · exact enterDisabled_laneLaw hs hu
  · exact hs

/-- Equal engines serve the same endpoints. -/
theorem unserved_congr {s t : State} {e : EndpointId} (h : t.engines = s.engines) (hu : s.Unserved e) :
    t.Unserved e := by
  unfold State.Unserved at *
  rwa [h]

/-- The ending of STOPPING keeps the law when no engine serves the endpoint (R29, R30, R36). -/
theorem stopEndpoint_laneLaw {s : State} {e : EndpointId} (hs : s.laneLaw) (hu : s.Unserved e) :
    (s.stopEndpoint e).laneLaw :=
  enterDisabled_laneLaw (laneLaw_setDescriptor_of_same (laneLaw_congr (abortQueue_lanes s e) hs) rfl rfl rfl)
    (unserved_congr (abortQueue_engines s e) hu)

/-- The report of an uncut transaction keeps the law when no engine serves the endpoint (R78). -/
theorem reportUncut_laneLaw {s : State} {e : EndpointId} (hs : s.laneLaw) (hu : s.Unserved e)
    (slot : Option SlotId) : (s.reportUncut e slot).laneLaw := by
  have counted : (s.setDescriptor e
      { s.endpoints[e] with transactionsDone := s.endpoints[e].transactionsDone + 1 }).laneLaw :=
    laneLaw_setDescriptor_of_same hs rfl rfl rfl
  unfold State.reportUncut
  cases slot with
  | none => exact counted
  | some i =>
    dsimp only
    split
    · exact counted
    · exact drainIfEmpty_laneLaw (laneLaw_congr (endSlot_lanes ..) counted)
        (unserved_congr (s := s) (endSlot_engines ..) hu)

/-- The report of a transaction cut by a link reset keeps the law when no engine serves the endpoint (R78). -/
theorem reportLinkCut_laneLaw {s : State} {e : EndpointId} (hs : s.laneLaw) (hu : s.Unserved e) :
    (s.reportLinkCut e).laneLaw := by
  unfold State.reportLinkCut
  split
  · exact stopEndpoint_laneLaw hs hu
  · exact drainIfEmpty_laneLaw hs hu
  all_goals exact hs

/-- A report keeps the law when no engine serves the endpoint reported (R78). -/
theorem report_laneLaw {s : State} {g : Engine} (hs : s.laneLaw)
    (hu : ∀ e, g.currentEndpoint = some e → s.Unserved e) : (s.report g).laneLaw := by
  unfold State.report
  split
  · exact hs
  · next e he =>
    split
    · exact reportUncut_laneLaw hs (hu e he) _
    · exact stopEndpoint_laneLaw hs (hu e he)
    · exact reportLinkCut_laneLaw hs (hu e he)

/-- An engine that has released its select is outside a transaction and keeps the law (R69, R79, R86). -/
theorem released_laneLaw {s : State} (hs : s.laneLaw) (l : LaneId) (g : Engine) (gapBits : BitVec 8) :
    (s.setEngine l (g.released gapBits)).laneLaw :=
  laneLaw_setEngine_of_released hs rfl rfl

/-- Once the engine of its lane has left its transaction, no engine serves an endpoint (R86). -/
theorem unserved_of_left {s : State} {l : LaneId} {e : EndpointId} {g : Engine} (hs : s.laneLaw)
    (hl : s.endpoints[e].lane = l) (hg : g.inTransaction = false) : (s.setEngine l g).Unserved e := by
  intro k hin he
  rw [State.setEngine_engines, get_set] at hin he
  split at hin
  · exact Bool.noConfusion (hg.symm.trans hin)
  · next hk =>
    rw [if_neg hk] at he
    exact hk (hl.symm.trans (serves_of_laneLaw hs hin he).lane)

/-- The end of a transaction keeps the law (R78, R79). -/
theorem finishTransaction_laneLaw {s : State} {l : LaneId} (hs : s.laneLaw)
    (hin : s.engines[l].inTransaction = true) : (s.finishTransaction l).laneLaw :=
  report_laneLaw (released_laneLaw hs ..) fun _ he => unserved_of_left hs (serves_of_laneLaw hs hin he).lane rfl

end Sys2Proof.Machine
end

section
/-! PROOFS. Cuts and reports (R78 to R83): what each comes to, case by case. -/

namespace Sys2Proof.Machine

/-! ### The engine inside a transaction -/

/-- The engine of an endpoint's lane is inside a transaction for it (R30). -/
theorem inside_iff (s : State) (e : EndpointId) : s.inside e = true ↔ s.Inside e := by
  simp only [State.inside, insideFor, Engine.inTransaction, State.Inside, Bool.and_eq_true, Bool.or_eq_true,
    decide_eq_true_eq]

/-- The engine of an endpoint's lane is not inside a transaction for it (R28). -/
theorem inside_eq_false_iff (s : State) (e : EndpointId) : s.inside e = false ↔ ¬ s.Inside e := by
  rw [← inside_iff, Bool.not_eq_true]

theorem inTransaction_iff (g : Engine) :
    g.inTransaction = true ↔ g.engineState = .waitReady ∨ g.engineState = .shifting := by
  simp [Engine.inTransaction]

/-- An engine outside a transaction is IDLE or in GAP. -/
theorem inTransaction_eq_false_iff (g : Engine) :
    g.inTransaction = false ↔ g.engineState = .idle ∨ g.engineState = .gap := by
  cases h : g.engineState <;> simp [Engine.inTransaction, h]

/-- The engine that a cut finds in WAIT_READY or LEAD, before the first unit (R80). -/
def Engine.BeforeFirstUnit (g : Engine) : Prop :=
  g.engineState = .waitReady ∨ g.engineState = .shifting ∧ g.phase = some .lead

/-- The engine that a cut finds past LEAD with no unit in flight: in DUMMY, or between two units (R80). -/
def Engine.BetweenUnits (g : Engine) : Prop :=
  g.engineState = .shifting ∧ (g.phase = some .dummy ∨ g.phase ≠ some .lead ∧ g.between = true)

/-- The engine that a cut finds past LEAD with a unit in flight, or in TRAIL (R80). -/
def Engine.UnitInFlight (g : Engine) : Prop :=
  g.engineState = .shifting ∧ g.phase ≠ some .lead ∧ g.phase ≠ some .dummy ∧ g.between = false

/-- A cut finds an engine inside a transaction in one of three places (R80). -/
theorem places_of_cut {g : Engine} (h : g.inTransaction = true) :
    g.BeforeFirstUnit ∨ g.BetweenUnits ∨ g.UnitInFlight := by
  rcases (inTransaction_iff g).mp h with hg | hg
  · exact .inl (.inl hg)
  · by_cases hlead : g.phase = some .lead
    · exact .inl (.inr ⟨hg, hlead⟩)
    by_cases hdummy : g.phase = some .dummy
    · exact .inr (.inl ⟨hg, .inl hdummy⟩)
    cases hb : g.between
    · exact .inr (.inr ⟨hg, hlead, hdummy, hb⟩)
    · exact .inr (.inl ⟨hg, .inr ⟨hlead, hb⟩⟩)

/-! ### The end of a transaction (R78, R79) -/

/-- A released engine as R69 and R79 give it. -/
theorem released_eq_afterRelease (g : Engine) (gapBits : BitVec 8) : g.released gapBits = g.afterRelease gapBits := rfl

/-- The gap is read from the current endpoint's descriptor (R20). -/
theorem gapBitsOf_of_current {s : State} {g : Engine} {e : EndpointId} (h : g.currentEndpoint = some e) :
    s.gapBitsOf g = s.endpoints[e].gapBits := by
  simp only [State.gapBitsOf, h]

/-- The end of a transaction releases the select and reports it (R78, R79). -/
theorem finishTransaction_of_current {s : State} {l : LaneId} {e : EndpointId}
    (h : s.engines[l].currentEndpoint = some e) : s.finishTransaction l =
      (s.setEngine l (s.engines[l].afterRelease s.endpoints[e].gapBits)).report s.engines[l] := by
  simp only [State.finishTransaction, gapBitsOf_of_current h, released_eq_afterRelease]

section

variable {g : Engine} {e : EndpointId} (h : g.currentEndpoint = some e)
include h

theorem report_of_uncut (s : State) (hc : g.cut = .none) : s.report g = s.reportUncut e g.currentSlot := by
  simp only [State.report, h, hc]

theorem report_of_abort (s : State) (hc : g.cut = .abort) : s.report g = s.stopEndpoint e := by
  simp only [State.report, h, hc]

theorem report_of_link (s : State) (hc : g.cut = .link) : s.report g = s.reportLinkCut e := by
  simp only [State.report, h, hc]

end

/-! ### A cut by ABORT-ENDPOINT (R80, R82, R83) -/

section

variable {s : State} {l : LaneId}

/-- Setting an engine twice is setting it once. -/
theorem setEngine_setEngine (s : State) (l : LaneId) (g h : Engine) :
    (s.setEngine l g).setEngine l h = s.setEngine l h := by
  simp [State.setEngine]

/-- The end of a transaction cut by ABORT: the select is released and the endpoint's queue ends (R36, R78). -/
theorem finishTransaction_of_abort {g : Engine} {e : EndpointId} (he : g.currentEndpoint = some e)
    (hc : g.cut = .abort) : (s.setEngine l g).finishTransaction l =
      (s.setEngine l (g.afterRelease s.endpoints[e].gapBits)).stopEndpoint e := by
  have hg : (s.setEngine l g).engines[l] = g := get_set_same ..
  rw [finishTransaction_of_current (by rwa [hg]), hg, report_of_abort he _ hc, setEngine_setEngine]
  rfl

/-- A cut by a link reset stays in hand (R83). -/
theorem cutByAbort_of_link (h : s.engines[l].cut = .link) : s.cutByAbort l = s := by
  simp only [State.cutByAbort, h, if_true]

/-- Before the first unit the select is released at once, and the endpoint's queue ends (R36, R80, R82). -/
theorem cutByAbort_of_beforeFirstUnit {e : EndpointId} (hc : s.engines[l].cut ≠ .link)
    (he : s.engines[l].currentEndpoint = some e) (hg : s.engines[l].BeforeFirstUnit) : s.cutByAbort l =
      (s.setEngine l (s.engines[l].afterRelease s.endpoints[e].gapBits)).stopEndpoint e := by
  rcases hg with hg | ⟨hg, hp⟩
  · simp only [State.cutByAbort, hc, hg, if_false]
    exact finishTransaction_of_abort he rfl
  · simp only [State.cutByAbort, hc, hg, hp, if_false]
    exact finishTransaction_of_abort he rfl

/-- With no unit in flight TRAIL begins at once (R73, R80). -/
theorem cutByAbort_of_betweenUnits (hc : s.engines[l].cut ≠ .link) (hg : s.engines[l].BetweenUnits) :
    s.cutByAbort l = s.setEngine l { s.engines[l] with
      cut := .abort, phase := some .trail, unitCount := 0, unitOut := [], between := false } := by
  obtain ⟨hg, hp⟩ := hg
  by_cases hdummy : s.engines[l].phase = some .dummy
  · simp only [State.cutByAbort, hc, hg, hdummy, if_false, enterTrail_eq]
  · obtain ⟨hlead, hb⟩ := hp.resolve_left hdummy
    simp only [State.cutByAbort, hc, hg, if_false, Engine.cutAfterUnit, hb, if_true, enterTrail_eq]

/-- The unit in flight is finished first (R80). -/
theorem cutByAbort_of_unitInFlight (hc : s.engines[l].cut ≠ .link) (hg : s.engines[l].UnitInFlight) :
    s.cutByAbort l = s.setEngine l { s.engines[l] with cut := .abort } := by
  obtain ⟨hg, hlead, hdummy, hb⟩ := hg
  simp only [State.cutByAbort, hc, hg, if_false, Engine.cutAfterUnit, hb, Bool.false_eq_true]

end

/-! ### A cut by a link reset (R80, R81) -/

/-- An engine outside a transaction is left as it is. -/
theorem cutByLinkReset_of_outside {g : Engine} (h : g.inTransaction = false) (gapBits : BitVec 8) :
    g.cutByLinkReset gapBits = g := by
  rcases (inTransaction_eq_false_iff g).mp h with hg | hg <;> simp only [Engine.cutByLinkReset, hg]

/-- Before the first unit the select is released at once. -/
theorem cutByLinkReset_of_beforeFirstUnit {g : Engine} (h : g.BeforeFirstUnit) (gapBits : BitVec 8) :
    g.cutByLinkReset gapBits = g.afterRelease gapBits := by
  rcases h with hg | ⟨hg, hp⟩
  · simp only [Engine.cutByLinkReset, hg, released_eq_afterRelease]
  · simp only [Engine.cutByLinkReset, hg, hp, released_eq_afterRelease]

/-- With no unit in flight TRAIL begins at once, no slot in hand. -/
theorem cutByLinkReset_of_betweenUnits {g : Engine} (h : g.BetweenUnits) (gapBits : BitVec 8) :
    g.cutByLinkReset gapBits = { g with
      cut := .link, currentSlot := none, phase := some .trail, unitCount := 0, unitOut := [], between := false } := by
  obtain ⟨hg, hp⟩ := h
  by_cases hdummy : g.phase = some .dummy
  · simp only [Engine.cutByLinkReset, hg, hdummy, enterTrail_eq]
  · obtain ⟨hlead, hb⟩ := hp.resolve_left hdummy
    simp only [Engine.cutByLinkReset, hg, Engine.cutAfterUnit, hb, if_true, enterTrail_eq]

/-- The unit in flight is finished first, no slot in hand. -/
theorem cutByLinkReset_of_unitInFlight {g : Engine} (h : g.UnitInFlight) (gapBits : BitVec 8) :
    g.cutByLinkReset gapBits = { g with cut := .link, currentSlot := none } := by
  obtain ⟨hg, hlead, hdummy, hb⟩ := h
  simp only [Engine.cutByLinkReset, hg, Engine.cutAfterUnit, hb, Bool.false_eq_true, if_false]

/-- All that a link reset can make of an engine: left alone outside a transaction, released, or kept in SHIFTING for the
same endpoint with its select asserted (R80). -/
theorem cutByLinkReset_cases (g : Engine) (gapBits : BitVec 8) :
    (g.inTransaction = false ∧ g.cutByLinkReset gapBits = g) ∨ g.cutByLinkReset gapBits = g.afterRelease gapBits ∨
      (g.inTransaction = true ∧ (g.cutByLinkReset gapBits).engineState = .shifting ∧
        (g.cutByLinkReset gapBits).currentEndpoint = g.currentEndpoint ∧
        (g.cutByLinkReset gapBits).selects = g.selects) := by
  cases hin : g.inTransaction
  · exact .inl ⟨rfl, cutByLinkReset_of_outside hin gapBits⟩
  · rcases places_of_cut hin with h | h | h
    · exact .inr (.inl (cutByLinkReset_of_beforeFirstUnit h gapBits))
    · rw [cutByLinkReset_of_betweenUnits h]
      exact .inr (.inr ⟨rfl, h.1, rfl, rfl⟩)
    · rw [cutByLinkReset_of_unitInFlight h]
      exact .inr (.inr ⟨rfl, h.1, rfl, rfl⟩)

/-! ### Endpoints through a link reset (R37) -/

/-- A descriptor through a link reset (R37). -/
theorem linkReset_endpoints (s : State) (e : EndpointId) :
    s.linkReset.endpoints[e] = s.endpoints[e].linkReset e s.engines s.linkReset.engines := by
  simp only [State.linkReset, tabulate_get]

/-- A descriptor whose transaction is finished first is kept. -/
theorem descriptor_linkReset_of_inside {d : Descriptor} {e : EndpointId} {before after : Vector Engine 4}
    (h : insideFor after d e = true) : d.linkReset e before after = d := by
  unfold Descriptor.linkReset
  split <;> simp [h]

/-- A link reset keeps a descriptor, or the endpoint becomes DISABLED (R37). -/
theorem descriptor_linkReset_cases (d : Descriptor) (e : EndpointId) (before after : Vector Engine 4) :
    d.linkReset e before after = d ∨ (d.linkReset e before after).state = .disabled := by
  unfold Descriptor.linkReset
  split
  · split
    · exact .inl rfl
    · exact .inr rfl
  · split
    · exact .inr rfl
    · exact .inl rfl
  all_goals exact .inl rfl

/-- An endpoint keeps its lane through a link reset (R37). -/
theorem descriptor_linkReset_lane (d : Descriptor) (e : EndpointId) (before after : Vector Engine 4) :
    (d.linkReset e before after).lane = d.lane := by
  unfold Descriptor.linkReset
  split <;> [split; split; skip; skip; skip] <;> rfl

end Sys2Proof.Machine
end

section
/-! PROOFS. The lanes' law through every command (R27, R86, R95). -/

namespace Sys2Proof.Machine

variable {s : State}

/-! ### Resets and cuts -/

/-- A link reset keeps the law: what is released serves nobody, and what is finished keeps its endpoint (R37, R80). -/
theorem linkReset_laneLaw (hs : s.laneLaw) : s.linkReset.laneLaw := by
  refine ⟨fun l => (engineLawful_iff ..).mpr ?_, fun x y hxy hx hy => ?_⟩
  · have cut := linkReset_engines s l
    obtain ⟨-, outside⟩ := (engineLawful_iff s l).mp (hs.1 l)
    rcases cutByLinkReset_cases s.engines[l] (s.gapBitsOf s.engines[l]) with ⟨hin, h⟩ | h | ⟨hin, hst, hcur, hsel⟩
    · rw [cut, h]
      exact ⟨fun h => Bool.noConfusion (hin.symm.trans h), outside⟩
    · rw [cut, h]
      exact ⟨fun h => Bool.noConfusion h, fun _ => rfl⟩
    · rw [← cut] at hst hcur hsel
      have hin' : s.linkReset.engines[l].inTransaction = true := (inTransaction_iff _).mpr (.inr hst)
      obtain ⟨e, he⟩ := ((engineLawful_iff s l).mp (hs.1 l)).1 hin
      have kept : s.linkReset.endpoints[e] = s.endpoints[e] := by
        refine (linkReset_endpoints s e).trans (descriptor_linkReset_of_inside ?_)
        simp only [insideFor, he.lane, hin', hcur, he.current, decide_true, Bool.and_self]
      refine ⟨fun _ => ⟨e, hcur.trans he.current, ?_, ?_, ?_, fun hw => ?_⟩,
        fun h => Bool.noConfusion (hin'.symm.trans h)⟩
      · rw [kept, he.lane]
      · rw [kept, hsel, he.selects]
      · rw [kept]
        exact he.running
      · exact EngineState.noConfusion (hst.symm.trans hw)
  · have kept (e : EndpointId) (he : s.linkReset.endpoints[e].state ≠ .disabled) :
        s.linkReset.endpoints[e] = s.endpoints[e] := by
      rw [linkReset_endpoints] at he ⊢
      exact (descriptor_linkReset_cases ..).resolve_right he
    have kept_x := kept x hx
    have kept_y := kept y hy
    rw [kept_x] at hx ⊢
    rw [kept_y] at hy ⊢
    exact hs.2 x y hxy hx hy

/-- A replay start keeps the law, whether or not it fails the link (R145, R147). -/
theorem startReplay_laneLaw (hs : s.laneLaw) : s.startReplay.laneLaw := by
  rcases startReplay_cases s with ⟨-, h⟩ | ⟨-, h⟩ <;> rw [h]
  · exact laneLaw_congr rfl hs
  · exact laneLaw_congr rfl (linkReset_laneLaw hs)

theorem takeNak_laneLaw (hs : s.laneLaw) (n : SeqNum) : (s.takeNak n).laneLaw := by
  have acknowledged : (s.setLink (s.link.acknowledge n)).laneLaw := laneLaw_congr rfl hs
  unfold State.takeNak
  dsimp only
  split
  · exact acknowledged
  · exact startReplay_laneLaw acknowledged

theorem takeSync_laneLaw (hs : s.laneLaw) : s.takeSync.laneLaw := by
  unfold State.takeSync
  dsimp only
  split
  · exact laneLaw_congr rfl (linkReset_laneLaw hs)
  · exact laneLaw_congr rfl hs

/-- After a device reset every endpoint is DISABLED and no select is asserted (R19, R65, R171). -/
theorem deviceReset_laneLaw (s : State) : s.deviceReset.laneLaw := by
  have disabled (e : EndpointId) : s.deviceReset.endpoints[e].state = .disabled := by
    simp [State.deviceReset, State.reset, Descriptor.reset]
  have idle (l : LaneId) : s.deviceReset.engines[l] = .reset := by
    simp [State.deviceReset, State.reset]
  refine ⟨fun l => (engineLawful_iff ..).mpr ?_, fun d e _ hd => absurd (disabled d) hd⟩
  rw [idle]
  exact ⟨fun h => Bool.noConfusion h, fun _ => rfl⟩

/-- ABORT-ENDPOINT with a transaction in hand keeps the law: before the first unit the engine is released and the endpoint
becomes DISABLED, and past LEAD the endpoint is STOPPING while the engine finishes (R31, R80, R93). -/
theorem abortInside_laneLaw {e : EndpointId} (hs : s.laneLaw) (hst : s.endpoints[e].state ≠ .disabled)
    (hin : s.inside e = true) : (abortInside e s).laneLaw := by
  obtain ⟨hg, he⟩ := (inside_iff s e).mp hin
  have hin := (inTransaction_iff _).mpr hg
  have hse := serves_of_laneLaw hs hin he
  have stopping (h : s.engines[s.endpoints[e].lane].engineState = .shifting) :
      ((s.setEpState e .stopping).markAborted (s.behindTheCut e)).laneLaw :=
    laneLaw_congr (s := s.setEpState e .stopping) rfl
      (laneLaw_setEpState hs hst (.inr rfl) fun _ => by rw [h]; exact EngineState.noConfusion)
  have shifting (hc : s.engines[s.endpoints[e].lane].cut = .link) :
      s.engines[s.endpoints[e].lane].engineState = .shifting := by
    refine hg.resolve_left fun hw => ?_
    rw [(hse.waiting hw).1] at hc
    exact Cut.noConfusion hc
  unfold abortInside
  generalize hu : (s.setEpState e .stopping).markAborted (s.behindTheCut e) = u at stopping
  have engines : u.engines = s.engines := hu ▸ rfl
  rw [← engines] at hin hg he shifting stopping
  by_cases hc : u.engines[s.endpoints[e].lane].cut = .link
  · rw [cutByAbort_of_link hc]
    exact stopping (shifting hc)
  rcases places_of_cut hin with h | h | h
  · rw [cutByAbort_of_beforeFirstUnit hc he h]
    have released := released_laneLaw hs s.endpoints[e].lane u.engines[s.endpoints[e].lane] u.endpoints[e].gapBits
    have left : (s.setEngine s.endpoints[e].lane
        (u.engines[s.endpoints[e].lane].afterRelease u.endpoints[e].gapBits)).Unserved e :=
      unserved_of_left hs rfl rfl
    have stopped := laneLaw_setDescriptor_of_unserved released
      (separate_of_laneLaw (d := { s.endpoints[e] with state := .stopping }) released hst rfl rfl) left
    exact stopEndpoint_laneLaw (laneLaw_congr (by rw [← hu]; rfl) stopped)
      (unserved_congr (by rw [← hu]; rfl) left)
  · rw [cutByAbort_of_betweenUnits hc h]
    exact laneLaw_setEngine_of_shifting (stopping h.1) hin h.1 rfl rfl
  · rw [cutByAbort_of_unitInFlight hc h]
    exact laneLaw_setEngine_of_shifting (stopping h.1) hin h.1 rfl rfl

/-! ### Endpoint commands (R27 to R34) -/

/-- The conflict check of ENABLE-ENDPOINT finds another endpoint that is not DISABLED with e's lane and select (R27). -/
theorem selectTaken_iff (s : State) (e : EndpointId) : s.selectTaken e = true ↔
    ∃ x : EndpointId, x ≠ e ∧ s.endpoints[x].state ≠ .disabled ∧ s.endpoints[x].lane = s.endpoints[e].lane ∧
      s.endpoints[x].select = s.endpoints[e].select := by
  simp only [State.selectTaken, List.any_eq_true, List.mem_finRange, true_and, Bool.and_eq_true, decide_eq_true_eq,
    and_assoc]

theorem enableEndpoint_laneLaw (hs : s.laneLaw) (e : EndpointId) : (enableEndpoint e s).2.laneLaw := by
  unfold enableEndpoint
  dsimp only
  split
  · next hst =>
    split_ifs with _ htaken
    · exact hs
    · exact hs
    · rw [selectTaken_iff] at htaken
      refine laneLaw_congr (judgeLevel_lanes ..) (laneLaw_setDescriptor_of_unserved hs (fun _ x hxe hx hl hsel => ?_)
        (unserved_of_state hs (.inl hst)))
      exact htaken ⟨x, hxe, hx, hl, hsel⟩
  all_goals exact hs

theorem disableEndpoint_laneLaw (hs : s.laneLaw) (e : EndpointId) : (disableEndpoint e s).2.laneLaw := by
  unfold disableEndpoint
  split
  · next hst =>
    split
    · next h => exact enterDisabled_laneLaw hs (unserved_of_not_inside hs h.2)
    · exact laneLaw_setEpState hs (by rw [hst]; exact EpState.noConfusion) (.inl rfl) EpState.noConfusion
  · exact hs
  · next hst => exact stopEndpoint_laneLaw hs (unserved_of_state hs (.inr hst))
  all_goals exact hs

/-- ABORT-ENDPOINT from ACTIVE or DRAINING keeps the law, with or without a transaction in hand (R30, R31). -/
theorem abortRunning_laneLaw {e : EndpointId} (hs : s.laneLaw) (hst : s.endpoints[e].state ≠ .disabled) :
    (if s.inside e then (CfgStatus.ok, abortInside e s) else (.ok, s.stopEndpoint e)).2.laneLaw := by
  split
  · next hin => exact abortInside_laneLaw hs hst hin
  · next hin => exact stopEndpoint_laneLaw hs (unserved_of_not_inside hs (Bool.not_eq_true _ ▸ hin))

theorem abortEndpoint_laneLaw (hs : s.laneLaw) (e : EndpointId) : (abortEndpoint e s).2.laneLaw := by
  unfold abortEndpoint
  split
  · next hst => exact abortRunning_laneLaw hs (by rw [hst]; exact EpState.noConfusion)
  · next hst => exact abortRunning_laneLaw hs (by rw [hst]; exact EpState.noConfusion)
  · next hst => exact stopEndpoint_laneLaw hs (unserved_of_state hs (.inr hst))
  all_goals exact hs

theorem resumeEndpoint_laneLaw (hs : s.laneLaw) (e : EndpointId) : (resumeEndpoint e s).2.laneLaw := by
  unfold resumeEndpoint
  dsimp only
  split
  · next hst =>
    have unserved := unserved_of_state hs (.inr hst)
    have separate {d : Descriptor} := separate_of_laneLaw (d := d) hs (by rw [hst]; exact EpState.noConfusion)
    exact drainIfEmpty_laneLaw (laneLaw_setDescriptor_of_unserved hs (separate rfl rfl) unserved)
      (unserved_congr (s := s) rfl unserved)
  all_goals exact hs

/-! ### CFG_WRITE (R24, R164, R178) -/

/-- No write changes an endpoint's state (R178). -/
theorem descriptor_writeWord_state (d : Descriptor) (k : Nat) (v : Word) : (d.writeWord k v).state = d.state := by
  unfold Descriptor.writeWord
  split <;> rfl

/-- Only word 2 of a descriptor holds its lane and select (R178). -/
theorem descriptor_writeWord_lane (d : Descriptor) {k : Nat} (h : k ≠ 2) (v : Word) :
    (d.writeWord k v).lane = d.lane ∧ (d.writeWord k v).select = d.select := by
  unfold Descriptor.writeWord
  split
  · exact absurd rfl h
  all_goals exact ⟨rfl, rfl⟩

/-- Writing a descriptor's word keeps the law when word 2 is written only while the endpoint is DISABLED (R24). -/
theorem laneLaw_writeWord_descriptor (hs : s.laneLaw) {e : EndpointId} {k : Nat} (v : Word)
    (hlock : k = 2 → s.endpoints[e].state = .disabled) :
    (s.setDescriptor e (s.endpoints[e].writeWord k v)).laneLaw := by
  have state := descriptor_writeWord_state s.endpoints[e] k v
  by_cases hk : k = 2
  · exact laneLaw_setDescriptor_of_unserved hs (separate_of_disabled s e (state.trans (hlock hk)))
      (unserved_of_state hs (.inl (hlock hk)))
  · obtain ⟨lane, select⟩ := descriptor_writeWord_lane s.endpoints[e] hk v
    exact laneLaw_setDescriptor_of_same hs lane select state

/-- A word of a descriptor, by its place in management space (R161). -/
theorem exists_descriptor_place {i : Nat} (h : 0x200 ≤ i ∧ i < 0x300) :
    ∃ (e : EndpointId) (k : Nat), k < 16 ∧ i = 0x200 + 16 * e.val + k :=
  ⟨⟨(i - 0x200) / 16, by omega⟩, (i - 0x200) % 16, by omega, by simp only; omega⟩

/-- A write outside the Endpoint Table leaves the lanes (R161). -/
theorem writeWord_lanes_of_outside (s : State) {i : Nat} (h : ¬ (0x200 ≤ i ∧ i < 0x300)) (v : Word) :
    (s.writeWord i v).lanes = s.lanes := by
  unfold State.writeWord
  rw [dif_neg h]
  split_ifs <;> rfl

/-- A word of a descriptor is judged as the descriptor judges it (R24, R161). -/
theorem judgeWord_descriptor (s : State) (length : Nat) (e : EndpointId) {k : Nat} (hk : k < 16) (v : Word) :
    s.judgeWord length (0x200 + 16 * e.val + k) v = s.endpoints[e].judgeWord k v := by
  have he := e.isLt
  have hrow : (0x200 + 16 * e.val + k - 0x200) / 16 = e.val := by omega
  have hcol : (0x200 + 16 * e.val + k - 0x200) % 16 = k := by omega
  simp (disch := omega) only [State.judgeWord, commandWord, acknowledgeWord, controlWord, if_neg, hrow, hcol]
  rw [dif_pos (by omega)]
  rfl

/-- Word 2 passes only while the endpoint is DISABLED (R24). -/
theorem disabled_of_judgeWord_two {d : Descriptor} {v : Word} (h : d.judgeWord 2 v = none) : d.state = .disabled := by
  by_contra hst
  simp [Descriptor.judgeWord, hst] at h

/-- Writing a word of a descriptor, but for the level judged after it (R164, R178). -/
theorem writeWord_lanes_of_descriptor (s : State) (e : EndpointId) {k : Nat} (hk : k < 16) (v : Word) :
    (s.writeWord (0x200 + 16 * e.val + k) v).lanes =
      (s.setDescriptor e (s.endpoints[e].writeWord k v)).lanes := by
  rw [writeWord_descriptor s e hk v]
  split
  · exact judgeLevel_lanes ..
  · rfl

/-- Writing a word changes no endpoint's state (R178). -/
theorem writeWord_states (s : State) (i : Nat) (v : Word) (d : EndpointId) :
    (s.writeWord i v).endpoints[d].state = s.endpoints[d].state := by
  by_cases hi : 0x200 ≤ i ∧ i < 0x300
  · obtain ⟨e, k, hk, rfl⟩ := exists_descriptor_place hi
    rw [((lanes_eq_iff _ _).mp (writeWord_lanes_of_descriptor s e hk v)).1, State.setDescriptor_endpoints, get_set]
    split
    · next h => rw [descriptor_writeWord_state, h]
    · rfl
  · rw [((lanes_eq_iff _ _).mp (writeWord_lanes_of_outside s hi v)).1]

/-- Writing a word that passed keeps the law, the states of the endpoints being those it was judged on (R24, R164). -/
theorem writeWord_laneLaw {u : State} (hu : u.laneLaw) {length i : Nat} {v : Word}
    (hstate : ∀ e : EndpointId, u.endpoints[e].state = s.endpoints[e].state)
    (hpass : s.judgeWord length i v = none) : (u.writeWord i v).laneLaw := by
  by_cases hi : 0x200 ≤ i ∧ i < 0x300
  · obtain ⟨e, k, hk, rfl⟩ := exists_descriptor_place hi
    rw [judgeWord_descriptor s length e hk] at hpass
    refine laneLaw_congr (writeWord_lanes_of_descriptor u e hk v) (laneLaw_writeWord_descriptor hu v fun h2 => ?_)
    exact (hstate e).trans (disabled_of_judgeWord_two (h2 ▸ hpass))
  · exact laneLaw_congr (writeWord_lanes_of_outside u hi v) hu

/-- Writing the words of a write that passed keeps the law (R24, R164). -/
theorem writeWords_laneLaw {length start : Nat} (vs : List Word) (k : Nat) (u : State) (hu : u.laneLaw)
    (hstate : ∀ e : EndpointId, u.endpoints[e].state = s.endpoints[e].state)
    (hpass : firstFailure s length start k vs = none) : (writeWords u (start + k) vs).laneLaw := by
  induction vs generalizing k u with
  | nil => exact hu
  | cons v vs ih =>
    rw [firstFailure] at hpass
    split at hpass
    · cases hpass
    · next hv =>
      exact ih (k + 1) _ (writeWord_laneLaw hu hstate hv) (fun e => (writeWord_states ..).trans (hstate e)) hpass

theorem writeAct_laneLaw (hs : s.laneLaw) (r : CfgRequest) : (writeAct r s).2.laneLaw := by
  unfold writeAct
  split_ifs
  · exact hs
  · exact hs
  · split
    · exact hs
    · next hpass => exact writeWords_laneLaw r.data 0 s hs (fun _ => rfl) hpass

/-! ### The lane events (R67 to R79) -/

/-- What the arbiter finds is an endpoint of the lane with the select examined, ACTIVE or DRAINING (R88, R89). -/
theorem firstEligible_found {l : LaneId} {ks : List SelectId} {k : SelectId} {e : EndpointId}
    (h : s.firstEligible l ks = some (k, e)) : s.endpoints[e].select = k ∧ s.endpoints[e].lane = l ∧
      (s.endpoints[e].state = .active ∨ s.endpoints[e].state = .draining) := by
  induction ks with
  | nil => cases h
  | cons x ks ih =>
    rw [State.firstEligible] at h
    split at h
    · next d hd =>
      obtain ⟨rfl, rfl⟩ : x = k ∧ d = e := by simpa using h
      have found := List.find?_some hd
      simp only [State.eligible, Bool.and_eq_true, Bool.or_eq_true, decide_eq_true_eq] at found
      exact ⟨found.1, found.2.1.1, found.2.1.2⟩
    · exact ih h

/-- A grant leads into a transaction (R67). -/
theorem granted_inTransaction (g : Engine) (e : EndpointId) (d : Descriptor) (k : SelectId) (i : SlotId) (sl : Slot)
    (t : Snapshot) : (g.granted e d k i sl t).inTransaction = true := by
  cases h : d.readyMode <;> simp [Engine.granted, Engine.inTransaction, h]

/-- A grant of an eligible endpoint keeps the law: its own select is asserted, and no cut is in hand (R67, R86, R88). -/
theorem granted_laneLaw (hs : s.laneLaw) {l : LaneId} {k : SelectId} {e : EndpointId}
    (h : s.arbitrate l = some (k, e)) (i : SlotId) (sl : Slot) (t : Snapshot) :
    (s.setEngine l (s.engines[l].granted e s.endpoints[e] k i sl t)).laneLaw := by
  obtain ⟨hsel, hlane, hst⟩ := firstEligible_found h
  refine laneLaw_setEngine_of_serves hs (e := e) (granted_inTransaction ..) ⟨?_, hlane, ?_, ?_, fun _ => ⟨?_, ?_⟩⟩
  · rw [State.setEngine_engines, get_set_same]; rfl
  · rw [State.setEngine_engines, get_set_same, State.setEngine_endpoints, hsel]; rfl
  · exact hst.imp_right .inl
  · rw [State.setEngine_engines, get_set_same]; rfl
  · rw [State.setEngine_endpoints]
    rcases hst with h | h <;> rw [h] <;> exact EpState.noConfusion

theorem execGrant_laneLaw (hs : s.laneLaw) (l : LaneId) : Leads (execGrant l s) State.laneLaw := by
  refine leads_unlessHeld hs ?_
  split
  · exact leads_next.mpr hs
  split
  · exact leads_next.mpr hs
  next k e he =>
  split
  · exact leads_next.mpr hs
  split
  · exact leads_next.mpr hs
  next i _ _ t _ =>
  exact leads_next.mpr (laneLaw_congr rfl (granted_laneLaw hs he i s.slots[i] t))

theorem execReadySeen_laneLaw (hs : s.laneLaw) (l : LaneId) : Leads (execReadySeen l s) State.laneLaw := by
  refine leads_unlessHeld hs ?_
  split
  · next h =>
    exact leads_next.mpr (laneLaw_setEngine_of_shifting hs ((inTransaction_iff _).mpr (.inl h)) rfl rfl rfl)
  all_goals exact leads_next.mpr hs

/-- A ready timeout keeps the law: the engine has released its select before the endpoint is HALTED (R35, R69). -/
theorem execReadyTimeout_laneLaw (hs : s.laneLaw) (l : LaneId) : Leads (execReadyTimeout l s) State.laneLaw := by
  refine leads_unlessHeld hs ?_
  split
  case h_1 hg =>
    have hin := (inTransaction_iff _).mpr (.inl hg)
    have released := released_laneLaw hs l s.engines[l] (s.gapBitsOf s.engines[l])
    have halted {u : State} {e : EndpointId} (he : s.engines[l].currentEndpoint = some e)
        (hu : u.lanes = (s.setEngine l (s.engines[l].released (s.gapBitsOf s.engines[l]))).lanes) :
        (u.setDescriptor e u.endpoints[e].halt).laneLaw := by
      have hse := serves_of_laneLaw hs hin he
      obtain ⟨endpoints, engines⟩ := (lanes_eq_iff _ _).mp hu
      have not_disabled : u.endpoints[e].state ≠ .disabled := by
        rw [endpoints]
        rcases hse.running with h | h | h <;> exact fun c => EpState.noConfusion (h.symm.trans c)
      have kept := laneLaw_congr hu released
      exact laneLaw_setDescriptor_of_unserved kept (separate_of_laneLaw kept not_disabled rfl rfl)
        (unserved_congr engines (unserved_of_left hs hse.lane rfl))
    dsimp only
    split
    · exact leads_next.mpr released
    · next e he =>
      split
      · exact leads_next.mpr (halted he rfl)
      · exact leads_next.mpr (halted he (endSlot_lanes ..))
  all_goals exact leads_next.mpr hs

/-- An engine that moves on inside its transaction keeps the law. -/
theorem sameTransaction_laneLaw (hs : s.laneLaw) {l : LaneId} {g : Engine}
    (hg : s.engines[l].engineState = .shifting) (h : s.engines[l].SameTransaction g) : (s.setEngine l g).laneLaw := by
  unfold Engine.SameTransaction at h
  have state : g.engineState = s.engines[l].engineState := by rw [h]
  have current : g.currentEndpoint = s.engines[l].currentEndpoint := by rw [h]
  have selects : g.selects = s.engines[l].selects := by rw [h]
  exact laneLaw_setEngine_of_shifting hs ((inTransaction_iff _).mpr (.inr hg)) (state.trans hg) current selects

theorem execGapEnd_laneLaw (hs : s.laneLaw) (l : LaneId) : Leads (execGapEnd l s) State.laneLaw := by
  refine leads_unlessHeld hs ?_
  split
  · next hg =>
    have released := ((engineLawful_iff s l).mp (hs.1 l)).2 ((inTransaction_eq_false_iff _).mpr (.inr hg))
    exact leads_next.mpr (laneLaw_setEngine_of_released hs rfl released)
  all_goals exact leads_next.mpr hs

/-! ### Every command -/

/-- Taking a CFG request keeps the law when its act does (R162). -/
theorem takeCfg_laneLaw (hs : s.laneLaw) {p : CfgRequest → Bool} {act : CfgRequest → State → CfgReply × State}
    (h : ∀ r u, u.laneLaw → (act r u).2.laneLaw) : Leads (unlessHeld s (takeCfg s p act)) State.laneLaw :=
  leads_unlessHeld hs (leads_takeCfg hs h (fun _ _ => laneLaw_congr rfl) fun _ _ => laneLaw_congr rfl)

/-- Taking a command keeps the law when performing it does (R168). -/
theorem takeCommand_laneLaw (hs : s.laneLaw) {code : Byte} {perform : Byte → State → CfgStatus × State}
    (h : ∀ index u, u.laneLaw → (perform index u).2.laneLaw) :
    Leads (unlessHeld s (takeCommand s code perform)) State.laneLaw :=
  leads_unlessHeld hs (leads_takeCommand hs h (fun _ _ => laneLaw_congr rfl) (fun _ _ => laneLaw_congr rfl)
    fun _ _ => laneLaw_congr rfl)

/-- A window command leaves the lanes when it does so on the window its index names (R168). -/
theorem takeWindowCommand_laneLaw (hs : s.laneLaw) {code : Byte} {f : WindowId → State → CfgStatus × State}
    (h : ∀ w u, (f w u).2.lanes = u.lanes) :
    Leads (unlessHeld s (takeCommand s code (onWindow f))) State.laneLaw := by
  refine takeCommand_laneLaw hs fun index u hu => ?_
  rcases onWindow_cases f index u with heq | ⟨w, heq⟩ <;> rw [heq]
  · exact hu
  · exact laneLaw_congr (h w u) hu

/-- An endpoint command keeps the law when it does so on the endpoint its index names (R168). -/
theorem takeEndpointCommand_laneLaw (hs : s.laneLaw) {code : Byte} {f : EndpointId → State → CfgStatus × State}
    (h : ∀ u, u.laneLaw → ∀ e, (f e u).2.laneLaw) :
    Leads (unlessHeld s (takeCommand s code (onEndpoint f))) State.laneLaw := by
  refine takeCommand_laneLaw hs fun index u hu => ?_
  rcases onEndpoint_cases f index u with heq | ⟨e, heq⟩ <;> rw [heq]
  · exact hu
  · exact h u hu e

theorem commitWindow_lanes (w : WindowId) (u : State) : (commitWindow w u).2.lanes = u.lanes := by
  rcases commitWindow_cases w u with ⟨-, h⟩ | ⟨kind, e, -, h⟩ <;> rw [h]
  split <;> rfl

/-- A reset of the counters keeps the law (R169). -/
theorem clearCounters_laneLaw (hs : s.laneLaw) : (clearCounters s).laneLaw := by
  simpa only [State.laneLaw, State.engineLawful, clearCounters, tabulate_get] using hs

theorem execDeviceReset_laneLaw (hs : s.laneLaw) : Leads (execDeviceReset s) State.laneLaw := by
  refine leads_unlessHeld hs ?_
  split
  · exact leads_next.mpr hs
  · split_ifs
    · exact leads_next.mpr (laneLaw_congr rfl hs)
    · exact leads_fault _
    · exact leads_next.mpr (deviceReset_laneLaw s)
    · exact leads_next.mpr hs

theorem takeMem_laneLaw (hs : s.laneLaw) (d : Direction) : Leads (takeMem d s) State.laneLaw := by
  intro t ht
  rcases takeMem_cases ht with rfl | ⟨m, rest, -, -, hreq⟩
  · exact hs
  have taken : ({ s with memHanded := rest } : State).laneLaw := laneLaw_congr rfl hs
  obtain ⟨i, -, ⟨w, -, hacc⟩ | ⟨x, w, -, rfl⟩⟩ := takeRequest_cases hreq
  · unfold accept at hacc
    dsimp only at hacc
    split at hacc
    · cases hacc
    · exact Host.Outcome.next.inj hacc ▸ laneLaw_congr rfl taken
  · exact laneLaw_congr (refuse_lanes ..) taken

theorem sendSlotReply_lanes {d : Direction} {c : Candidate} {t : State} (h : s.sendSlotReply d c = some t) :
    t.lanes = s.lanes := by
  unfold State.sendSlotReply at h
  split at h
  · simp only [Option.ite_none_right_eq_some, Option.some.injEq] at h
    exact h.2 ▸ sendImmediate_lanes ..
  · simp only [Option.ite_none_right_eq_some, Option.some.injEq] at h
    exact h.2 ▸ sendCompletion_lanes ..
  · cases h

theorem sendNotice_lanes (s : State) (n : Notice) : (s.sendNotice n).lanes = s.lanes := by
  have entered := enterReplayBuffer_lanes s (.notice n)
  unfold State.sendNotice
  generalize s.enterReplayBuffer (.notice n) = u at entered ⊢
  exact entered

theorem sendCfgReply_lanes (s : State) (r : CfgReply) : (s.sendCfgReply r).lanes = s.lanes := by
  have entered := enterReplayBuffer_lanes s (.cfgReply r)
  rw [State.sendCfgReply, grantCredits_lanes]
  generalize s.enterReplayBuffer (.cfgReply r) = u at entered ⊢
  exact entered

theorem sendAttn_lanes (s : State) (e : EndpointId) : (s.sendAttn e).lanes = s.lanes := by
  rw [State.sendAttn, setAttn_lanes, enterReplayBuffer_lanes]

/-- Every command keeps the lanes' law (R27, R86, R95). -/
theorem exec_laneLaw (c : Instr) (hs : s.laneLaw) : Leads (exec c s) State.laneLaw := by
  have kept {t : State} (h : t.lanes = s.lanes) : t.laneLaw := laneLaw_congr h hs
  have left {t : State} (h : t.lanes = s.lanes) : Leads (.next t) State.laneLaw := leads_next.mpr (kept h)
  cases c with
  | badPacket f => exact leads_unlessHeld hs (by split <;> exact left rfl)
  | sequencedPacket f => exact leads_unlessHeld hs (by split <;> [split; skip] <;> exact left (by simp))
  | hostAck f => exact leads_unlessHeld hs (by split <;> [split_ifs; skip] <;> exact left (by simp))
  | hostNak f =>
    refine leads_unlessHeld hs ?_
    split
    · split_ifs
      · exact left rfl
      · exact left (noteMalformed_lanes s)
      · exact leads_next.mpr (takeNak_laneLaw hs _)
      · exact left rfl
    · exact left rfl
  | sync f =>
    refine leads_unlessHeld hs ?_
    split
    · split
      · exact leads_next.mpr (takeSync_laneLaw hs)
      · exact left (noteMalformed_lanes s)
    · exact left rfl
  | memRead => exact leads_unlessHeld hs (takeMem_laneLaw hs _)
  | memWrite => exact leads_unlessHeld hs (takeMem_laneLaw hs _)
  | cfgRead =>
    refine takeCfg_laneLaw hs fun r u hu => ?_
    unfold readAct
    split <;> exact hu
  | cfgWrite => exact takeCfg_laneLaw hs fun r u hu => writeAct_laneLaw hu r
  | attentionAcknowledge =>
    refine takeCfg_laneLaw hs fun r u hu => ?_
    unfold acknowledgeAct
    split <;> exact laneLaw_congr rfl hu
  | commitWindow => exact takeWindowCommand_laneLaw hs commitWindow_lanes
  | clearWindow => exact takeWindowCommand_laneLaw hs fun _ _ => rfl
  | fetchWindow => exact takeWindowCommand_laneLaw hs fun _ _ => rfl
  | enableEndpoint => exact takeEndpointCommand_laneLaw hs fun _ => enableEndpoint_laneLaw
  | disableEndpoint => exact takeEndpointCommand_laneLaw hs fun _ => disableEndpoint_laneLaw
  | abortEndpoint => exact takeEndpointCommand_laneLaw hs fun _ => abortEndpoint_laneLaw
  | resumeEndpoint => exact takeEndpointCommand_laneLaw hs fun _ => resumeEndpoint_laneLaw
  | clearCounters => exact takeCommand_laneLaw hs fun _ _ => clearCounters_laneLaw
  | deviceReset => exact execDeviceReset_laneLaw hs
  | unknownCommand =>
    refine takeCfg_laneLaw hs fun r u hu => ?_
    unfold commandAct
    split <;> exact laneLaw_congr rfl hu
  | ack | nak | syncAck | syncRequest | resend =>
    refine leads_onChoice hs fun c t h => ?_
    cases c <;> simp at h
    subst h
    exact kept rfl
  | cfgReply | notice | attn =>
    refine leads_onChoice hs fun c t h => ?_
    cases c <;> simp at h
    subst h
    exact kept (by simp only [sendCfgReply_lanes, sendNotice_lanes, sendAttn_lanes])
  | readData => exact leads_onChoice hs fun _ _ h => kept (sendSlotReply_lanes h)
  | writeDone => exact leads_onChoice hs fun _ _ h => kept (sendSlotReply_lanes h)
  | transmissionEnd => exact leads_unlessHeld hs (left rfl)
  | replayTimerExpiry =>
    refine leads_unlessHeld hs ?_
    split
    · exact leads_next.mpr (startReplay_laneLaw hs)
    · exact left rfl
  | refreshTimerExpiry => exact leads_unlessHeld hs (by split <;> exact left rfl)
  | requestTimerExpiry => exact leads_unlessHeld hs (by split <;> exact left rfl)
  | grant l => exact execGrant_laneLaw hs l
  | readySeen l => exact execReadySeen_laneLaw hs l
  | readyTimeout l => exact execReadyTimeout_laneLaw hs l
  | phaseEnd l =>
    intro t ht
    rcases execPhaseEnd_cases ht with rfl | ⟨g, -, hg, hsame, rfl⟩
    · exact hs
    · exact sameTransaction_laneLaw hs hg hsame
  | wordComplete l din =>
    intro t ht
    rcases execWordComplete_cases ht with rfl | ⟨j, g, -, hg, hsame, rfl⟩
    · exact hs
    · obtain ⟨-, engines⟩ := (lanes_eq_iff _ _).mp (wordDone_lanes s s.engines[l] j din)
      have done := laneLaw_congr (wordDone_lanes s s.engines[l] j din) hs
      generalize s.wordDone s.engines[l] j din = u at engines done ⊢
      rw [← engines] at hg hsame
      exact sameTransaction_laneLaw done hg hsame
  | release l =>
    refine leads_unlessHeld hs ?_
    split
    · next hg _ _ => exact leads_next.mpr (finishTransaction_laneLaw hs ((inTransaction_iff _).mpr (.inr hg)))
    · exact left rfl
  | gapEnd l => exact execGapEnd_laneLaw hs l
  | attentionSample levels => exact leads_unlessHeld hs (left rfl)
  | resetNAssert => exact leads_next.mpr (laneLaw_congr rfl (deviceReset_laneLaw s))
  | resetNRelease =>
    show Leads (execResetNRelease s) _
    unfold execResetNRelease
    split <;> exact left rfl

end Sys2Proof.Machine
end

section
/-! PROOFS. O58: the lanes' law. -/

namespace Sys2Proof.Proofs

open Sys2Proof.Machine

/-- Settles O58: an empty queue idles, and every command keeps the law. -/
theorem laneLawKept : Obligations.LaneLawKept := by
  intro s t hs ht
  unfold step at ht
  split at ht
  · exact Host.Outcome.next.inj ht ▸ hs
  · next c rest _ => exact exec_laneLaw c (laneLaw_congr (t := { s with pending := rest }) rfl hs) t ht

end Sys2Proof.Proofs
end

section
/-! PROOFS. A link reset by each of its causes (R148), and what it makes of endpoints and attention records (R37, R126). -/

namespace Sys2Proof.Machine

variable {s : State}

/-! ### The three causes (R148) -/

/-- A SYNC whose bits but the kind are 0 is well formed (R175). -/
theorem syncWellFormed_of_zero {p : HostPacket} (hrest : p.rest = []) (hzero : p.header.extractLsb' 0 28 = 0) :
    p.syncWellFormed = true := by
  simp [HostPacket.syncWellFormed, hrest, hzero]

/-- An ACK or NAK whose bits but kind and next are 0 is well formed (R175). -/
theorem ackWellFormed_of_zero {p : HostPacket} (hrest : p.rest = []) (hzero : p.header.extractLsb' 0 21 = 0) :
    p.ackWellFormed = true := by
  simp [HostPacket.ackWellFormed, hrest, hzero]

/-- ACK(O) is in window and removes nothing (R142). -/
theorem covered_oldestSeq (k : LinkPort) : k.covered k.oldestSeq = 0 := by
  simp [LinkPort.covered]

theorem inWindow_oldestSeq (k : LinkPort) : k.inWindow k.oldestSeq = true := by
  simp [LinkPort.inWindow, covered_oldestSeq]

theorem acknowledge_oldestSeq (k : LinkPort) : k.acknowledge k.oldestSeq = k :=
  if_pos (covered_oldestSeq k)

/-- At a replayCount of 4 a replay start fails the link (R145, R147). -/
theorem startReplay_of_max (h : 4 ≤ s.link.replayCount) : s.startReplay = s.linkFailure := if_pos h

/-- A NAK that removes nothing while the buffer holds a packet starts a replay (R143). -/
theorem takeNak_oldestSeq (h : s.link.replayBuffer ≠ []) : s.takeNak s.link.oldestSeq = s.startReplay := by
  rw [State.takeNak, acknowledge_oldestSeq]
  exact if_neg h

/-- Each cause of a link reset gives one; besides it only the Link Port's record and the credits change (R148). -/
theorem exec_of_linkResetBy {c : Instr} (h : s.LinkResetBy c) :
    ∃ (k : LinkPort) (credits : Credits), exec c s = .next { s.linkReset with link := k, credits := credits } := by
  obtain ⟨hs, hup, ⟨f, p, rfl, hf, hrest, hzero⟩ | ⟨rfl, htimer, hmax⟩ |
    ⟨f, p, rfl, hf, hrest, hzero, hseq, hbuf, hmax⟩⟩ := h
  · have taken : exec (.sync f) s = .next s.takeSync := by
      show unlessHeld s _ = _
      simp only [unlessHeld_of_high hs, hf, syncWellFormed_of_zero hrest hzero, if_true]
    exact ⟨_, _, by rw [taken, State.takeSync, if_pos hup]; rfl⟩
  · have started : exec .replayTimerExpiry s = .next s.startReplay := by
      show unlessHeld s _ = _
      rw [unlessHeld_of_high hs, if_pos ⟨hup, Option.isSome_iff_ne_none.mpr htimer⟩]
    exact ⟨_, _, by rw [started, startReplay_of_max hmax]; rfl⟩
  · have started : exec (.hostNak f) s = .next s.startReplay := by
      show unlessHeld s _ = _
      simp only [unlessHeld_of_high hs, hf, hup, ackWellFormed_of_zero hrest hzero, hseq, inWindow_oldestSeq,
        takeNak_oldestSeq hbuf, reduceCtorEq, if_false, if_true]
    exact ⟨_, _, by rw [started, startReplay_of_max hmax]; rfl⟩

/-! ### Endpoints (R37) -/

/-- An endpoint that is DISABLED, ACTIVE or HALTED keeps its descriptor. -/
theorem descriptor_linkReset_of_kept {d : Descriptor} (h : d.state = .disabled ∨ d.state = .active ∨ d.state = .halted)
    (e : EndpointId) (before after : Vector Engine 4) : d.linkReset e before after = d := by
  rcases h with h | h | h <;> simp only [Descriptor.linkReset, h]

/-- A DRAINING endpoint whose engine finishes no transaction for it becomes DISABLED. -/
theorem descriptor_linkReset_of_draining {d : Descriptor} {e : EndpointId} {after : Vector Engine 4}
    (h : d.state = .draining) (hout : insideFor after d e = false) (before : Vector Engine 4) :
    d.linkReset e before after = { d with state := .disabled } := by
  simp only [Descriptor.linkReset, h, hout, Bool.false_eq_true, if_false]

/-- Whether an engine still finishes a transaction for an endpoint is read on the lane it had. -/
theorem insideFor_linkReset (s : State) (e : EndpointId) :
    insideFor s.linkReset.engines s.endpoints[e] e = s.linkReset.inside e := by
  simp only [State.inside, insideFor, linkReset_endpoints, descriptor_linkReset_lane]

/-! ### Attention records (R125, R126) -/

theorem attn_linkReset_of_disabled {d : Descriptor} (h : d.state = .disabled) (r : AttnRecord) :
    r.linkReset d = ⟨.idle, none, 0⟩ := if_pos h

/-- SENT becomes PENDING, and the fence is absent. -/
theorem attn_linkReset_of_not_disabled {d : Descriptor} (h : d.state ≠ .disabled) (r : AttnRecord) :
    r.linkReset d = ⟨if r.state = .sent then .pending else r.state, none, r.repeats⟩ := by
  unfold AttnRecord.linkReset
  rw [if_neg h]
  cases hr : r.state <;> simp

end Sys2Proof.Machine
end

section
/-! PROOFS. O18: a link reset on the lanes. -/

namespace Sys2Proof.Proofs

open Sys2Proof.Machine

/-- Settles O18: every cause performs the one link reset, which cuts each engine by where it finds it. -/
theorem linkResetCutsTheLanes : Obligations.LinkResetCutsTheLanes := by
  intro s c hcause
  obtain ⟨k, credits, hexec⟩ := exec_of_linkResetBy hcause
  refine ⟨_, hexec, fun l => ?_, fun e => ?_, fun e => ⟨fun h => ?_, fun h => ?_⟩⟩
  · have cut := linkReset_engines s l
    refine ⟨fun h => ?_, fun e he h => ?_, fun hg h => ?_, fun hg hlead hdummy hb => ?_⟩
    · exact cut.trans (cutByLinkReset_of_outside ((inTransaction_eq_false_iff _).mpr h) _)
    · rw [gapBitsOf_of_current he] at cut
      exact cut.trans (cutByLinkReset_of_beforeFirstUnit h _)
    · exact cut.trans (cutByLinkReset_of_betweenUnits ⟨hg, h⟩ _)
    · exact cut.trans (cutByLinkReset_of_unitInFlight ⟨hg, hlead, hdummy, hb⟩ _)
  · have reset := linkReset_endpoints s e
    refine ⟨fun h => ?_, fun _ hin => ?_, fun h hout => ?_⟩
    · exact reset.trans (descriptor_linkReset_of_kept h ..)
    · exact reset.trans (descriptor_linkReset_of_inside
        ((insideFor_linkReset s e).trans ((inside_iff s.linkReset e).mpr hin)))
    · exact reset.trans (descriptor_linkReset_of_draining h
        ((insideFor_linkReset s e).trans ((inside_eq_false_iff s.linkReset e).mpr hout)) _)
  · exact (linkReset_attn s e).trans (attn_linkReset_of_disabled h _)
  · exact (linkReset_attn s e).trans (attn_linkReset_of_not_disabled h _)

end Sys2Proof.Proofs
end

section
/-! PROOFS. CFG_WRITE refused whole (R24, R164, R165): by class, by extent, or by the first word that fails. -/

namespace Sys2Proof.Machine

variable {s : State}

/-- The first word that fails decides, every word before it passing (R164). -/
theorem firstFailure_eq_some {length start : Nat} {x : CfgStatus} {v : Word} (vs : List Word) (k j : Nat)
    (hv : vs[j]? = some v) (hfail : s.WordFails length (start + (k + j)) v x)
    (hbefore : ∀ (m : Nat) (u : Word) (y : CfgStatus), m < j → vs[m]? = some u →
      ¬ s.WordFails length (start + (k + m)) u y) : firstFailure s length start k vs = some (x, k + j) := by
  induction vs generalizing k j with
  | nil => simp at hv
  | cons w ws ih =>
    cases j with
    | zero =>
      obtain rfl : w = v := by simpa using hv
      have fails : s.judgeWord length (start + k) w = some x := (judgeWord_eq_some ..).mpr hfail
      rw [firstFailure, fails]
      rfl
    | succ j =>
      have passes : s.judgeWord length (start + k) w = none :=
        Option.eq_none_iff_forall_ne_some.mpr fun y hy => hbefore 0 w y (by omega) rfl ((judgeWord_eq_some ..).mp hy)
      rw [firstFailure, passes, show k + (j + 1) = k + 1 + j by omega]
      refine ih (k + 1) j (by simpa using hv) ?_ fun m u y hm hu => ?_
      · rwa [show k + 1 + j = k + (j + 1) by omega]
      · rw [show k + 1 + m = k + (m + 1) by omega]
        exact hbefore (m + 1) u y (by omega) (by simpa using hu)

/-- A CFG-WRITE that performs nothing, taken: what its act answers, when it changes nothing else (R164). -/
theorem execCfgWrite_of_refused {r : CfgRequest} {rest : List CfgRequest} {x : CfgStatus} {n : Nat}
    (ht : s.TakesCfg r rest) (hd : r.direction = .write) (hperforms : r.performs = false)
    (hact : writeAct r { s with cfgHanded := rest } = (plainReply r x n, { s with cfgHanded := rest })) (hx : x ≠ .ok) :
    exec .cfgWrite s = .next (s.afterReply r rest x (some (BitVec.ofNat 4 n)) []) := by
  obtain ⟨hs, hr, hl⟩ := ht
  show unlessHeld s _ = _
  rw [unlessHeld_of_high hs, takeCfg_of_taken hr (by simp [hd, hperforms]) hl, hact, plainReply, if_neg hx]
  rfl

/-- A command and an acknowledgement are performed from class PRIVILEGED only, by a single word at one of two places
(R164). -/
theorem performs_eq_false {r : CfgRequest}
    (h : r.cls = .normal ∨ r.length ≠ 1 ∨ r.start.toNat ≠ 0x008 ∧ r.start.toNat ≠ 0x00C) : r.performs = false := by
  rcases h with h | h | ⟨h8, hC⟩
  · simp [CfgRequest.performs, h]
  · have : r.length ≠ 1#8 := h
    simp [CfgRequest.performs, CfgRequest.isSingleWrite, this]
  · simp [CfgRequest.performs, CfgRequest.isSingleWrite, commandWord, acknowledgeWord, h8, hC]

/-- No word fails with status OK (R164, R178). -/
theorem ne_ok_of_wordFails {length i : Nat} {v : Word} {x : CfgStatus} (h : s.WordFails length i v x) : x ≠ .ok := by
  rintro rfl
  unfold State.WordFails at h
  split_ifs at h <;> simp at h

/-- A command word or acknowledge word written alone does not fail (R164). -/
theorem not_single_of_wordFails {i : Nat} {v : Word} {x : CfgStatus} (h : s.WordFails 1 i v x) :
    i ≠ 0x008 ∧ i ≠ 0x00C := by
  refine ⟨?_, ?_⟩ <;> rintro rfl <;> simp [State.WordFails] at h

end Sys2Proof.Machine
end

section
/-! PROOFS. O26: a CFG_WRITE refused. -/

namespace Sys2Proof.Proofs

open Sys2Proof.Machine

/-- Settles O26: each check of R164 in its order, the third by the first word that fails. -/
theorem cfgWriteRefused : Obligations.CfgWriteRefused := by
  intro s r rest ht hd hlen
  refine ⟨fun hn => ?_, fun hp hend => ?_, fun k v x hp hend hv hbefore hfail => ?_⟩
  · exact execCfgWrite_of_refused (n := 0) ht hd (performs_eq_false (.inl hn)) (by simp [writeAct, hn]) (by simp)
  · have past : pastEnd r = true := decide_eq_true hend
    have hperforms : r.performs = false := by
      by_cases hl : r.length = 1
      · rw [hl] at hend
        exact performs_eq_false (.inr (.inr ⟨by simp at hend; omega, by simp at hend; omega⟩))
      · exact performs_eq_false (.inr (.inl hl))
    exact execCfgWrite_of_refused ht hd hperforms (by simp [writeAct, hp, past, pastEndOffset]) (by simp)
  · have inside : pastEnd r = false := decide_eq_false (by rw [Config.lastManagementWord]; omega)
    have hfirst : firstFailure { s with cfgHanded := rest } r.length.toNat r.start.toNat 0 r.data = some (x, 0 + k) :=
      firstFailure_eq_some r.data 0 k hv ((Nat.zero_add k).symm ▸ hfail)
        fun m u y hm hu => (Nat.zero_add m).symm ▸ hbefore m u y hm hu
    have hperforms : r.performs = false := by
      by_cases hl : r.length = 1
      · have hk : k = 0 := by
          obtain ⟨h, -⟩ := List.getElem?_eq_some_iff.mp hv
          simp [hlen, hl] at h
          exact h
        rw [hl, hk] at hfail
        exact performs_eq_false (.inr (.inr (not_single_of_wordFails hfail)))
      · exact performs_eq_false (.inr (.inl hl))
    exact execCfgWrite_of_refused ht hd hperforms (by simp [writeAct, hp, inside, hfirst]) (ne_ok_of_wordFails hfail)

end Sys2Proof.Proofs
end

section
/-! PROOFS. The endpoint commands (chapter 2): taking one, and what each does from each endpoint state. -/

namespace Sys2Proof.Machine

/-! ### Taking an endpoint command (R168) -/

/-- An endpoint command whose index names endpoint `e` acts on `e` (R168). -/
theorem onEndpoint_of_index {f : EndpointId → State → CfgStatus × State} {index : Byte} {e : EndpointId}
    (h : index.toNat = e.val) (s : State) : onEndpoint f index s = f e s := by
  have he : index.toNat < 16 := h ▸ e.isLt
  have : (⟨index.toNat, he⟩ : EndpointId) = e := Fin.ext h
  rw [onEndpoint, dif_pos he, this]

/-- An index above 15 names no endpoint (R168). -/
theorem onEndpoint_of_large {f : EndpointId → State → CfgStatus × State} {index : Byte} (h : 15 < index.toNat)
    (s : State) : onEndpoint f index s = (.range, s) :=
  dif_neg (by omega)

/-- An index above 31 names no window (R168). -/
theorem onWindow_of_large {f : WindowId → State → CfgStatus × State} {index : Byte} (h : 31 < index.toNat)
    (s : State) : onWindow f index s = (.range, s) :=
  dif_neg (by omega)

section

variable {s u : State} {r : CfgRequest} {rest : List CfgRequest} {code : Byte} {status : CfgStatus}

/-- An endpoint command that the Management Unit can take, acting on the endpoint its index names (R162, R165, R168). -/
theorem takeEndpointCommand {e : EndpointId} {f : EndpointId → State → CfgStatus × State} (ht : s.TakesCfg r rest)
    (hc : r.Commands code) (hp : r.cls = .privileged) (he : (r.word0.extractLsb' 0 8).toNat = e.val)
    (hf : f e { s with cfgHanded := rest } = (status, u)) :
    unlessHeld s (takeCommand s code (onEndpoint f)) = .next { u with
      replies := u.replies ++ [⟨r.tag, status, if status = .ok then none else some 0, []⟩]
      lastCommand := ⟨r.word0.extractLsb' 24 8, r.word0.extractLsb' 0 8, status⟩ } :=
  takeCommand_of_commands ht hc hp ((onEndpoint_of_index he _).trans hf)

/-- A command that changes nothing of its own (R168). -/
theorem takeCommand_of_unchanged {perform : Byte → State → CfgStatus × State} (ht : s.TakesCfg r rest)
    (hc : r.Commands code) (hp : r.cls = .privileged)
    (hu : ∀ u, perform (r.word0.extractLsb' 0 8) u = (status, u)) :
    unlessHeld s (takeCommand s code perform) = .next (s.afterCommand r rest status) :=
  takeCommand_of_commands ht hc hp (hu _)

/-- A command from class NORMAL is refused with DENIED (R164). -/
theorem takeCommand_of_normal {perform : Byte → State → CfgStatus × State} (ht : s.TakesCfg r rest)
    (hc : r.Commands code) (hn : r.cls = .normal) :
    unlessHeld s (takeCommand s code perform) = .next (s.afterReply r rest .denied (some 0) []) := by
  obtain ⟨hs, hr, hl⟩ := ht
  rw [unlessHeld_of_high hs, takeCommand, takeCfg_of_taken hr (isCommand_of_commands hc) hl, commandAct_of_normal hn]
  rfl

/-- A code that names none of the nine commands is taken as an unknown command, which performs nothing (R168). -/
theorem takesUnknown_of_commands (hc : r.Commands code) (hno : code ∉ commandCodes) :
    (r.isSingleWrite commandWord && decide (r.commandCode ∉ commandCodes)) = true := by
  obtain ⟨hd, hl, hs, rfl⟩ := hc
  simp only [CfgRequest.isSingleWrite, CfgRequest.commandCode, hd, hl, hs, hno, not_false_iff, decide_true,
    Bool.and_true]
  decide

theorem execUnknownCommand_of_privileged (ht : s.TakesCfg r rest) (hc : r.Commands code) (hno : code ∉ commandCodes)
    (hp : r.cls = .privileged) : exec .unknownCommand s = .next (s.afterCommand r rest .unknown) := by
  obtain ⟨hs, hr, hl⟩ := ht
  show unlessHeld s _ = _
  rw [unlessHeld_of_high hs, takeCfg_of_taken hr (takesUnknown_of_commands hc hno) hl, commandAct_of_privileged hp]
  rfl

theorem execUnknownCommand_of_normal (ht : s.TakesCfg r rest) (hc : r.Commands code) (hno : code ∉ commandCodes)
    (hn : r.cls = .normal) : exec .unknownCommand s = .next (s.afterReply r rest .denied (some 0) []) := by
  obtain ⟨hs, hr, hl⟩ := ht
  show unlessHeld s _ = _
  rw [unlessHeld_of_high hs, takeCfg_of_taken hr (takesUnknown_of_commands hc hno) hl, commandAct_of_normal hn]
  rfl

end

/-! ### ENABLE-ENDPOINT (R27) -/

section

variable {s : State} {e : EndpointId}

theorem enableEndpoint_of_not_disabled (h : s.endpoints[e].state ≠ .disabled) : enableEndpoint e s = (.state, s) := by
  unfold enableEndpoint
  dsimp only
  split
  · next hst => exact absurd hst h
  all_goals rfl

theorem enableEndpoint_of_range (hst : s.endpoints[e].state = .disabled)
    (h : 2 * s.endpoints[e].clockDiv.toNat ≤ s.endpoints[e].sampleDelay.toNat) : enableEndpoint e s = (.range, s) := by
  simp only [enableEndpoint, hst, if_pos h]

theorem enableEndpoint_of_conflict (hst : s.endpoints[e].state = .disabled)
    (h : s.endpoints[e].sampleDelay.toNat < 2 * s.endpoints[e].clockDiv.toNat) (htaken : s.selectTaken e = true) :
    enableEndpoint e s = (.conflict, s) := by
  simp only [enableEndpoint, hst, if_neg (not_le.mpr h), htaken, if_true]

theorem enableEndpoint_of_free (hst : s.endpoints[e].state = .disabled)
    (h : s.endpoints[e].sampleDelay.toNat < 2 * s.endpoints[e].clockDiv.toNat) (htaken : s.selectTaken e = false) :
    enableEndpoint e s =
      (.ok, (s.setDescriptor e { s.endpoints[e] with state := .active, haltCause := .none }).judgeLevel e) := by
  simp only [enableEndpoint, hst, if_neg (not_le.mpr h), htaken, Bool.false_eq_true, if_false]

/-- A level is judged on the input an endpoint watches and its sense, and on no other of its fields (R117). -/
theorem levelNow_setDescriptor {d : Descriptor} (hin : d.attnInput = s.endpoints[e].attnInput)
    (hsense : d.attnSense = s.endpoints[e].attnSense) : (s.setDescriptor e d).LevelNow e ↔ s.LevelNow e := by
  simp only [State.LevelNow, State.LevelMet, State.setDescriptor_endpoints, State.setDescriptor_lastSample,
    get_set_same, hin, hsense]

/-! ### DISABLE-ENDPOINT (R28, R29) -/

theorem disableEndpoint_of_active_idle (hst : s.endpoints[e].state = .active) (hq : s.queues[e] = [])
    (hin : ¬ s.Inside e) : disableEndpoint e s = (.ok, s.enterDisabled e) := by
  simp only [disableEndpoint, hst, hq, (inside_eq_false_iff s e).mpr hin, and_self, if_true]

theorem disableEndpoint_of_active_busy (hst : s.endpoints[e].state = .active) (h : s.queues[e] ≠ [] ∨ s.Inside e) :
    disableEndpoint e s = (.ok, s.setEpState e .draining) := by
  have busy : ¬ (s.queues[e] = [] ∧ s.inside e = false) := by
    rintro ⟨hq, hin⟩
    exact h.elim (fun h => h hq) ((inside_eq_false_iff s e).mp hin)
  simp only [disableEndpoint, hst, if_neg busy]

theorem disableEndpoint_of_draining (hst : s.endpoints[e].state = .draining) : disableEndpoint e s = (.ok, s) := by
  simp only [disableEndpoint, hst]

theorem disableEndpoint_of_halted (hst : s.endpoints[e].state = .halted) :
    disableEndpoint e s = (.ok, s.stopEndpoint e) := by
  simp only [disableEndpoint, hst]

theorem disableEndpoint_of_refused (hst : s.endpoints[e].state = .disabled ∨ s.endpoints[e].state = .stopping) :
    disableEndpoint e s = (.state, s) := by
  rcases hst with hst | hst <;> simp only [disableEndpoint, hst]

/-! ### ABORT-ENDPOINT (R30, R31) -/

theorem abortEndpoint_of_inside (hst : s.endpoints[e].state = .active ∨ s.endpoints[e].state = .draining)
    (hin : s.Inside e) : abortEndpoint e s = (.ok, abortInside e s) := by
  rcases hst with hst | hst <;> simp only [abortEndpoint, hst, (inside_iff s e).mpr hin, if_true]

/-- With no transaction in hand the queue ends at once (R30). -/
theorem abortEndpoint_of_outside (h : s.endpoints[e].state = .halted ∨
    (s.endpoints[e].state = .active ∨ s.endpoints[e].state = .draining) ∧ ¬ s.Inside e) :
    abortEndpoint e s = (.ok, s.stopEndpoint e) := by
  rcases h with hst | ⟨hst, hin⟩
  · simp only [abortEndpoint, hst]
  · rcases hst with hst | hst <;>
      simp only [abortEndpoint, hst, (inside_eq_false_iff s e).mpr hin, Bool.false_eq_true, if_false]

theorem abortEndpoint_of_refused (hst : s.endpoints[e].state = .disabled ∨ s.endpoints[e].state = .stopping) :
    abortEndpoint e s = (.state, s) := by
  rcases hst with hst | hst <;> simp only [abortEndpoint, hst]

/-! ### RESUME-ENDPOINT (R33, R34) -/

theorem resumeEndpoint_of_not_halted (h : s.endpoints[e].state ≠ .halted) : resumeEndpoint e s = (.state, s) := by
  unfold resumeEndpoint
  dsimp only
  split
  · next hst => exact absurd hst h
  all_goals rfl

/-- Setting a descriptor twice is setting it once. -/
theorem setDescriptor_setDescriptor (s : State) (e : EndpointId) (c d : Descriptor) :
    (s.setDescriptor e c).setDescriptor e d = s.setDescriptor e d := by
  simp [State.setDescriptor]

/-- A descriptor set, and then the endpoint entering DISABLED (R125). -/
theorem enterDisabled_setDescriptor (s : State) (e : EndpointId) (d : Descriptor) :
    (s.setDescriptor e d).enterDisabled e =
      (s.setDescriptor e { d with state := .disabled }).setAttn e ⟨.idle, none, 0⟩ := by
  rw [State.enterDisabled, State.setEpState, setDescriptor_setDescriptor, State.setDescriptor_endpoints, get_set_same]
  rfl

/-- A descriptor set to DRAINING, its queue empty: the endpoint becomes DISABLED (R34). -/
theorem drainIfEmpty_setDescriptor_of_empty {d : Descriptor} (hd : d.state = .draining) (hq : s.queues[e] = []) :
    (s.setDescriptor e d).drainIfEmpty e =
      (s.setDescriptor e { d with state := .disabled }).setAttn e ⟨.idle, none, 0⟩ := by
  rw [← enterDisabled_setDescriptor]
  exact if_pos ⟨by rwa [State.setDescriptor_endpoints, get_set_same], hq⟩

/-- A descriptor set to another state, or its queue not empty: nothing more (R34). -/
theorem drainIfEmpty_setDescriptor_of_not {d : Descriptor} (h : d.state ≠ .draining ∨ s.queues[e] ≠ []) :
    (s.setDescriptor e d).drainIfEmpty e = s.setDescriptor e d := by
  refine if_neg ?_
  rw [State.setDescriptor_endpoints, get_set_same]
  rintro ⟨hd, hq⟩
  exact h.elim (fun h => h hd) fun h => h hq

theorem resumeEndpoint_of_active (hst : s.endpoints[e].state = .halted)
    (hd : s.endpoints[e].drainAfterResume = false) : resumeEndpoint e s = (.ok, s.setDescriptor e
      { s.endpoints[e] with state := .active, haltCause := .none, drainAfterResume := false }) := by
  simp only [resumeEndpoint, hst, hd, Bool.false_eq_true, if_false]
  rw [drainIfEmpty_setDescriptor_of_not (.inl EpState.noConfusion)]

theorem resumeEndpoint_of_draining (hst : s.endpoints[e].state = .halted)
    (hd : s.endpoints[e].drainAfterResume = true) (hq : s.queues[e] ≠ []) :
    resumeEndpoint e s = (.ok, s.setDescriptor e
      { s.endpoints[e] with state := .draining, haltCause := .none, drainAfterResume := false }) := by
  simp only [resumeEndpoint, hst, hd, if_true]
  rw [drainIfEmpty_setDescriptor_of_not (.inr hq)]

theorem resumeEndpoint_of_drained (hst : s.endpoints[e].state = .halted)
    (hd : s.endpoints[e].drainAfterResume = true) (hq : s.queues[e] = []) :
    resumeEndpoint e s = (.ok, (s.setDescriptor e
      { s.endpoints[e] with state := .disabled, haltCause := .none, drainAfterResume := false }).setAttn e
        ⟨.idle, none, 0⟩) := by
  simp only [resumeEndpoint, hst, hd, if_true]
  rw [drainIfEmpty_setDescriptor_of_empty rfl hq]

end

end Sys2Proof.Machine
end

section
/-! PROOFS. O32, O33, O37, O38: the endpoint commands that end no request, and the commands turned away. -/

namespace Sys2Proof.Proofs

open Sys2Proof.Machine

/-- Settles O32: the two checks in their order, and then the level judged on the descriptor set ACTIVE. -/
theorem enableEndpoint : Obligations.EnableEndpoint := by
  intro s r rest e ht hc hp he hst hidle d taken t
  have free (h : ¬ taken) : s.selectTaken e = false := by
    rw [← Bool.not_eq_true, selectTaken_iff]
    exact h
  let u : State := { s with cfgHanded := rest }
  let active : Descriptor := { d with state := .active, haltCause := .none }
  have level : (u.setDescriptor e active).LevelNow e ↔ s.LevelNow e := levelNow_setDescriptor (s := u) rfl rfl
  refine ⟨fun h => ?_, fun h htaken => ?_, fun h htaken hlevel => ?_, fun h htaken hlevel => ?_⟩
  · exact takeEndpointCommand ht hc hp he (enableEndpoint_of_range (s := u) hst h)
  · exact takeEndpointCommand ht hc hp he
      (enableEndpoint_of_conflict (s := u) hst h ((selectTaken_iff s e).mpr htaken))
  · have judged := judgeLevel_of_not (.inr (.inr (mt level.mp hlevel)))
    exact takeEndpointCommand ht hc hp he
      ((enableEndpoint_of_free (s := u) hst h (free htaken)).trans (congrArg (Prod.mk _) judged))
  · have not_disabled : (u.setDescriptor e active).endpoints[e].state ≠ .disabled := by
      rw [State.setDescriptor_endpoints, get_set_same]
      exact EpState.noConfusion
    have judged := judgeLevel_of_taken not_disabled hidle (level.mpr hlevel)
    exact takeEndpointCommand ht hc hp he
      ((enableEndpoint_of_free (s := u) hst h (free htaken)).trans (congrArg (Prod.mk _) judged))

/-- Settles O33: DISABLE-ENDPOINT from each of the two states. -/
theorem disableEndpoint : Obligations.DisableEndpoint := by
  intro s r rest e ht hc hp he
  let u : State := { s with cfgHanded := rest }
  refine ⟨fun hst hq hin => ?_, fun hst h => ?_, fun hst => ?_⟩
  · exact takeEndpointCommand ht hc hp he (disableEndpoint_of_active_idle (s := u) hst hq hin)
  · exact takeEndpointCommand ht hc hp he (disableEndpoint_of_active_busy (s := u) hst h)
  · exact takeEndpointCommand ht hc hp he (disableEndpoint_of_draining (s := u) hst)

/-- Settles O37: RESUME-ENDPOINT by drainAfterResume and the queue. -/
theorem resumeEndpoint : Obligations.ResumeEndpoint := by
  intro s r rest e ht hc hp he hst goes
  let u : State := { s with cfgHanded := rest }
  refine ⟨fun hd => ?_, fun hd hq => ?_, fun hd hq => ?_⟩
  · exact takeEndpointCommand ht hc hp he (resumeEndpoint_of_active (s := u) hst hd)
  · exact takeEndpointCommand ht hc hp he (resumeEndpoint_of_draining (s := u) hst hd hq)
  · exact takeEndpointCommand ht hc hp he (resumeEndpoint_of_drained (s := u) hst hd hq)

/-- Settles O38: a command turned away changes nothing of its own, so only its reply and its record stand. -/
theorem commandsTurnedAway : Obligations.CommandsTurnedAway := by
  refine ⟨fun s r rest ht => ⟨fun e hp he => ⟨fun hc hst => ?_, fun hc hst => ?_, fun hc hst => ?_, fun hc hst => ?_⟩,
    fun c code hp hc h => ?_, fun c code hn hc h => ?_⟩, fun s r rest code ht hc hno => ⟨fun hp => ?_, fun hn => ?_⟩⟩
  · exact takeEndpointCommand ht hc hp he (enableEndpoint_of_not_disabled (s := { s with cfgHanded := rest }) hst)
  · exact takeEndpointCommand ht hc hp he (disableEndpoint_of_refused (s := { s with cfgHanded := rest }) hst)
  · exact takeEndpointCommand ht hc hp he (abortEndpoint_of_refused (s := { s with cfgHanded := rest }) hst)
  · exact takeEndpointCommand ht hc hp he (resumeEndpoint_of_not_halted (s := { s with cfgHanded := rest }) hst)
  · simp only [List.mem_cons, List.not_mem_nil, or_false, Prod.mk.injEq] at h
    rcases h with ⟨⟨rfl, rfl⟩ | ⟨rfl, rfl⟩ | ⟨rfl, rfl⟩, hi⟩ | ⟨⟨rfl, rfl⟩ | ⟨rfl, rfl⟩ | ⟨rfl, rfl⟩ | ⟨rfl, rfl⟩, hi⟩
    iterate 3 exact takeCommand_of_unchanged ht hc hp (onWindow_of_large hi)
    iterate 4 exact takeCommand_of_unchanged ht hc hp (onEndpoint_of_large hi)
  · simp only [List.mem_cons, List.not_mem_nil, or_false, Prod.mk.injEq] at h
    rcases h with ⟨rfl, rfl⟩ | ⟨rfl, rfl⟩ | ⟨rfl, rfl⟩ | ⟨rfl, rfl⟩ | ⟨rfl, rfl⟩ | ⟨rfl, rfl⟩ | ⟨rfl, rfl⟩ | ⟨rfl, rfl⟩ <;>
      exact takeCommand_of_normal ht hc hn
  · exact execUnknownCommand_of_privileged ht hc hno hp
  · exact execUnknownCommand_of_normal ht hc hno hn

end Sys2Proof.Proofs
end

section
/-! PROOFS. The end of a whole queue with status ABORTED (R29, R30, R36, R61): slots, lists, blocks, notices, credits. -/

namespace Sys2Proof.Machine

/-! ### Notices and credits -/

/-- What a notice makes of the notice queue depends on that queue alone (R113). -/
theorem addNotice_notices_congr {s t : State} (h : t.notices = s.notices) (n : Notice) :
    (t.addNotice n).notices = (s.addNotice n).notices := by
  unfold State.addNotice
  rw [h]
  split <;> rfl

/-- What notices created in order make of the notice queue depends on that queue and on them alone (R113). -/
theorem foldl_addNotice_notices_congr {α : Type} (l : List α) (n : α → Notice) {s t : State}
    (h : t.notices = s.notices) :
    (l.foldl (fun u x => u.addNotice (n x)) t).notices = (l.foldl (fun u x => u.addNotice (n x)) s).notices := by
  induction l generalizing s t with
  | nil => exact h
  | cons x l ih => exact ih (addNotice_notices_congr h _)

/-- Two grants are one (R155). -/
theorem grant_grant (c : CreditCount) (m n : Nat) : (c.grant m).grant n = c.grant (m + n) := by
  simp [CreditCount.grant, BitVec.ofNat_add, BitVec.add_assoc, Nat.add_assoc]

/-- A grant of nothing changes nothing (R155). -/
@[simp] theorem grant_zero (c : CreditCount) : c.grant 0 = c := by
  simp [CreditCount.grant]

/-! ### The end of one slot (R41, R60, R61) -/

/-- A slot with status ABORTED, unless it has a status already (R41). -/
def Slot.aborted (sl : Slot) : Slot := { sl with status := some (sl.status.getD .aborted) }

/-- A slot that has left its queue: freed when posted, and otherwise COMPLETE (R60, R61). -/
def Slot.left (sl : Slot) : Slot := if sl.posted then sl.freed else { sl with state := .complete }

/-- The POSTED_FAIL notice of a posted slot that ends ABORTED (R61, R112). -/
def Slot.failNotice (sl : Slot) (e : EndpointId) : Notice :=
  .postedFail e sl.tag (sl.status.getD .aborted) sl.beatsDone

section

variable (s : State) (e : EndpointId) (i : SlotId)

/-- A posted slot that ends with a failure: its notice queued, its blocks returned, its credits granted. -/
theorem endSlot_of_posted (hp : s.slots[i].posted = true) (hx : s.slots[i].status.getD .aborted ≠ .ok) :
    s.endSlot e i .aborted = ({ s with
      slots := s.slots.set i s.slots[i].aborted.left
      queues := s.queues.set e (s.queues[e].erase i)
      freeBlocks := s.slots[i].blocks.foldr insertBlock s.freeBlocks
      notices := (s.addNotice (s.slots[i].failNotice e)).notices } : State).grantCredits 1
        s.slots[i].blocks.length 0 := by
  have noted := addNotice_notices_congr (s := s)
    (t := (s.setSlot i s.slots[i].aborted).setQueue e (s.queues[e].erase i)) rfl (s.slots[i].failNotice e)
  simp only [Slot.aborted, Slot.failNotice, hp] at noted
  simp only [State.endSlot, hp, if_true, if_neg hx, Slot.aborted, Slot.failNotice, Slot.left]
  rw [addNotice_frame, noted]
  simp [State.freeSlot, State.setSlot, State.setQueue, Slot.freed]

/-- A non-posted slot that ends: COMPLETE at the tail of the completion list. -/
theorem endSlot_of_non_posted (hp : s.slots[i].posted = false) : s.endSlot e i .aborted = { s with
    slots := s.slots.set i s.slots[i].aborted.left
    queues := s.queues.set e (s.queues[e].erase i)
    completions := s.completions.set e (s.completions[e] ++ [i]) } := by
  simp only [State.endSlot, hp, Bool.false_eq_true, if_false, Slot.aborted, Slot.left]
  simp [State.setSlot, State.setQueue, State.setCompletion]

end

/-- The free set after blocks return (R50). -/
theorem mem_foldr_insertBlock (b : BlockId) (l free : List BlockId) :
    b ∈ l.foldr insertBlock free ↔ b ∈ free ∨ b ∈ l := by
  induction l with
  | nil => simp
  | cons c l ih =>
    rw [List.foldr_cons, mem_insertBlock, ih, List.mem_cons]
    tauto

/-! ### Queues that end (R29, R30, R36) -/

/-- The posted slots of endpoint e's queue, in queue order, with the status they end with. -/
def State.postedSlots (s : State) (e : EndpointId) : List Slot :=
  (s.queues[e].map fun i => s.slots[i].aborted).filter (·.posted)

/-- The premises under which a queue ends ABORTED: no slot stands in it twice, and none has another status (R41, R43). -/
structure State.Abortable (s : State) (e : EndpointId) : Prop where
  nodup : s.queues[e].Nodup
  status : ∀ i ∈ s.queues[e], s.slots[i].status = none ∨ s.slots[i].status = some .aborted

/-- `t` is `s` with the queue of endpoint `e` ended: `QueueAborted` over the posted slots as a list. -/
structure State.QueueEnded (s : State) (e : EndpointId) (t : State) : Prop where
  slots : ∀ i : SlotId, t.slots[i] = if i ∈ s.queues[e] then s.slots[i].aborted.left else s.slots[i]
  queues : t.queues = s.queues.set e []
  completions : t.completions =
    s.completions.set e (s.completions[e] ++ s.queues[e].filter fun i => !s.slots[i].aborted.posted)
  blocks : ∀ b : BlockId, b ∈ t.freeBlocks ↔ b ∈ s.freeBlocks ∨ ∃ sl ∈ s.postedSlots e, b ∈ sl.blocks
  notices : t.notices = ((s.postedSlots e).foldl (fun u sl => u.addNotice (sl.failNotice e)) s).notices
  credits : t.credits = ⟨s.credits.request.grant (s.postedSlots e).length,
    s.credits.data.grant ((s.postedSlots e).map fun sl => sl.blocks.length).sum, s.credits.management⟩

variable {s t u : State} {e : EndpointId} {i : SlotId} {q : List SlotId}

/-- Nothing ends when the queue is empty. -/
theorem queueEnded_of_empty (h : s.queues[e] = []) : s.QueueEnded e s where
  slots j := by simp only [h, List.not_mem_nil, if_false]
  queues := by rw [← h]; simp
  completions := by rw [h]; simp
  blocks b := by simp only [State.postedSlots, h, List.map_nil, List.filter_nil, List.not_mem_nil, false_and,
    exists_false, or_false]
  notices := by simp only [State.postedSlots, h, List.map_nil, List.filter_nil, List.foldl_nil]
  credits := by simp only [State.postedSlots, h, List.map_nil, List.filter_nil, List.length_nil, List.sum_nil,
    grant_zero]

/-- An abortable slot ends ABORTED, whether or not it was marked before (R41). -/
theorem State.Abortable.getD_status (h : s.Abortable e) (hi : i ∈ s.queues[e]) :
    s.slots[i].status.getD .aborted = .aborted := by
  rcases h.status i hi with h | h <;> rw [h] <;> rfl

/-- What the end of its head `i` makes of a queue that goes on with `q`: `u` is the state after (R60, R61). -/
structure State.HeadEnded (s : State) (e : EndpointId) (i : SlotId) (q : List SlotId) (u : State) : Prop where
  queue : s.queues[e] = i :: q
  fresh : i ∉ q
  slots : u.slots = s.slots.set i s.slots[i].aborted.left
  queues : u.queues = s.queues.set e q
  completions : u.completions =
    if s.slots[i].posted then s.completions else s.completions.set e (s.completions[e] ++ [i])
  freeBlocks : u.freeBlocks =
    if s.slots[i].posted then s.slots[i].blocks.foldr insertBlock s.freeBlocks else s.freeBlocks
  notices : u.notices =
    if s.slots[i].posted then (s.addNotice (s.slots[i].failNotice e)).notices else s.notices
  credits : u.credits =
    if s.slots[i].posted then
      ⟨s.credits.request.grant 1, s.credits.data.grant s.slots[i].blocks.length, s.credits.management⟩
    else s.credits

/-- The head of an abortable queue ends as R60 and R61 say. -/
theorem headEnded_of_abortable (h : s.Abortable e) (hq : s.queues[e] = i :: q) :
    s.HeadEnded e i q (s.endSlot e i .aborted) := by
  have hfresh : i ∉ q := (List.nodup_cons.mp (hq ▸ h.nodup)).1
  have hrest : s.queues[e].erase i = q := by rw [hq, List.erase_cons_head]
  cases hp : s.slots[i].posted
  · rw [endSlot_of_non_posted s e i hp, hrest]
    constructor <;> simp only [hp, hq, hfresh, Bool.false_eq_true, if_false, not_false_iff]
  · have hst : s.slots[i].status.getD .aborted ≠ .ok := by
      rw [h.getD_status (hq ▸ List.mem_cons_self ..)]
      exact MemStatus.noConfusion
    rw [endSlot_of_posted s e i hp hst, hrest]
    constructor
    case queue => exact hq
    case fresh => exact hfresh
    case credits => simp only [grantCredits_credits, hp, if_true, grant_zero]
    case slots | queues => rw [grantCredits_frame]
    case completions | freeBlocks | notices =>
      rw [grantCredits_frame]
      simp only [hp, if_true]

section

variable (hu : s.HeadEnded e i q u)
include hu

/-- The rest of the queue is as it was. -/
theorem State.HeadEnded.rest : u.queues[e] = q := by
  rw [hu.queues, get_set_same]

/-- The end of the head leaves every other slot. -/
theorem State.HeadEnded.slot_of_ne {j : SlotId} (h : j ≠ i) : u.slots[j] = s.slots[j] := by
  rw [hu.slots, get_set_other _ _ _ _ h.symm]

/-- The slots of the rest of the queue are as they were. -/
theorem State.HeadEnded.slot_of_rest {j : SlotId} (h : j ∈ q) : u.slots[j] = s.slots[j] :=
  hu.slot_of_ne fun hj => hu.fresh (hj ▸ h)

/-- The rest of an abortable queue is abortable. -/
theorem State.HeadEnded.abortable (h : s.Abortable e) : u.Abortable e := by
  refine ⟨?_, fun j hj => ?_⟩
  · rw [hu.rest]
    exact (List.nodup_cons.mp (hu.queue ▸ h.nodup)).2
  · rw [hu.rest] at hj
    rw [hu.slot_of_rest hj]
    exact h.status j (hu.queue ▸ List.mem_cons_of_mem _ hj)

/-- The posted slots of the queue are its head, when posted, and those of the rest. -/
theorem State.HeadEnded.postedSlots : s.postedSlots e =
    if s.slots[i].posted then s.slots[i].aborted :: u.postedSlots e else u.postedSlots e := by
  have hrest : (q.map fun j => u.slots[j].aborted) = q.map fun j => s.slots[j].aborted :=
    List.map_congr_left fun j hj => by rw [hu.slot_of_rest hj]
  rw [State.postedSlots, State.postedSlots, hu.rest, hu.queue, hrest, List.map_cons, List.filter_cons]
  rfl

/-- A queue whose head ends and whose rest is then ended is ended. -/
theorem queueEnded_of_headEnded (ht : u.QueueEnded e t) : s.QueueEnded e t where
  slots j := by
    rw [ht.slots j, hu.rest, hu.queue]
    by_cases hj : j = i
    · rw [hj, if_neg hu.fresh, if_pos (List.mem_cons_self ..), hu.slots, get_set_same]
    · simp only [List.mem_cons, hj, false_or, hu.slot_of_ne hj]
  queues := by rw [ht.queues, hu.queues, Vector.set_set]
  completions := by
    have hrest : (q.filter fun j => !u.slots[j].aborted.posted) = q.filter fun j => !s.slots[j].aborted.posted :=
      List.filter_congr fun j hj => by rw [hu.slot_of_rest hj]
    have hi : s.slots[i].aborted.posted = s.slots[i].posted := rfl
    rw [ht.completions, hu.rest, hrest, hu.completions, hu.queue, List.filter_cons, hi]
    cases s.slots[i].posted
    · simp only [Bool.false_eq_true, if_false, Bool.not_false, if_true, get_set_same, Vector.set_set, List.append_assoc,
        List.singleton_append]
    · rfl
  blocks b := by
    have hi : s.slots[i].aborted.blocks = s.slots[i].blocks := rfl
    rw [ht.blocks b, hu.freeBlocks, hu.postedSlots]
    split
    · simp only [mem_foldr_insertBlock, List.mem_cons, or_and_right, exists_or, exists_eq_left, hi, or_assoc]
    · rfl
  notices := by
    rw [ht.notices, hu.postedSlots]
    have hnotices := hu.notices
    split
    · next hp =>
      rw [if_pos hp] at hnotices
      exact foldl_addNotice_notices_congr _ _ hnotices
    · next hp =>
      rw [if_neg hp] at hnotices
      exact foldl_addNotice_notices_congr _ _ hnotices
  credits := by
    have hi : s.slots[i].aborted.blocks = s.slots[i].blocks := rfl
    rw [ht.credits, hu.credits, hu.postedSlots]
    split
    · simp only [grant_grant, List.length_cons, List.map_cons, List.sum_cons, hi, Nat.add_comm 1]
    · rfl

end

/-- An abortable queue ends as R61 says, head first. -/
theorem queueEnded_abortQueue (h : s.Abortable e) : s.QueueEnded e (s.abortQueue e) := by
  unfold State.abortQueue
  generalize hq : s.queues[e] = q
  induction q generalizing s with
  | nil => exact queueEnded_of_empty hq
  | cons i q ih =>
    have head := headEnded_of_abortable h hq
    exact queueEnded_of_headEnded head (ih (head.abortable h) head.rest)

/-- The posted slots of a queue, by their numbers. -/
theorem postedSlots_eq_map (s : State) (e : EndpointId) :
    s.postedSlots e = (s.queues[e].filter fun i => s.slots[i].posted).map fun i => s.slots[i].aborted :=
  List.filter_map

/-- A queue ended is ended as the statements say it. -/
theorem queueAborted_of_queueEnded (h : s.QueueEnded e t) : s.QueueAborted t e := by
  have posted := postedSlots_eq_map s e
  refine ⟨fun i hi hp => ?_, fun i hi hp => ?_, fun i hi => ?_, h.queues, h.completions, fun b => ?_, ?_, ?_, ?_, ?_⟩
  · rw [h.slots i, if_pos hi]
    exact if_neg (by rw [Slot.aborted, hp]; exact Bool.false_ne_true)
  · rw [h.slots i, if_pos hi]
    exact if_pos hp
  · rw [h.slots i, if_neg hi]
  · rw [h.blocks b, posted]
    simp only [List.mem_map, exists_exists_and_eq_and, Slot.aborted]
  · rw [h.notices, posted, List.foldl_map]
    rfl
  · rw [h.credits, posted, List.length_map]
    rfl
  · rw [h.credits, posted, List.map_map]
    rfl
  · rw [h.credits]

/-! ### The same ending from two states -/

/-- What the end of requests touches besides the slots: lists, blocks, notices and credits. -/
def State.listSide (s : State) :
    Vector (List SlotId) 16 × Vector (List SlotId) 16 × List BlockId × List Notice × Credits :=
  (s.queues, s.completions, s.freeBlocks, s.notices, s.credits)

/-- States that differ only in slots of the queue marked before it ends, and outside what its end touches, end alike
(R41). -/
theorem State.QueueEnded.of_same {s' t' : State} (h : s'.QueueEnded e t') (hs : s'.listSide = s.listSide)
    (hin : ∀ i ∈ s.queues[e], s'.slots[i].aborted = s.slots[i].aborted)
    (hout : ∀ i : SlotId, i ∉ s.queues[e] → s'.slots[i] = s.slots[i]) (ht : t.listSide = t'.listSide)
    (hslots : t.slots = t'.slots) : s.QueueEnded e t := by
  simp only [State.listSide, Prod.mk.injEq] at hs ht
  obtain ⟨queues, completions, blocks, notices, credits⟩ := hs
  obtain ⟨queues', completions', blocks', notices', credits'⟩ := ht
  have posted : s'.postedSlots e = s.postedSlots e := by
    rw [State.postedSlots, State.postedSlots, queues, List.map_congr_left hin]
  constructor
  case slots =>
    intro i
    rw [hslots, h.slots i, queues]
    split
    · next hi => rw [hin i hi]
    · next hi => rw [hout i hi]
  case queues => rw [queues', h.queues, queues]
  case completions =>
    have kept : (s.queues[e].filter fun i => !s'.slots[i].aborted.posted) =
        s.queues[e].filter fun i => !s.slots[i].aborted.posted :=
      List.filter_congr fun i hi => by rw [hin i hi]
    rw [completions', h.completions, completions, queues, kept]
  case blocks =>
    intro b
    rw [blocks', h.blocks b, blocks, posted]
  case notices =>
    rw [notices', h.notices, posted]
    exact foldl_addNotice_notices_congr _ _ notices
  case credits => rw [credits', h.credits, credits, posted]

/-! ### The ending of STOPPING (R29, R30, R36) -/

/-- A queue that ends, and then the endpoint DISABLED with drainAfterResume no and its record IDLE (R21, R125). -/
theorem stopEndpoint_eq (s : State) (e : EndpointId) : s.stopEndpoint e = { s.abortQueue e with
    endpoints := s.endpoints.set e { s.endpoints[e] with state := .disabled, drainAfterResume := false }
    attn := s.attn.set e ⟨.idle, none, 0⟩ } := by
  have attn : (s.abortQueue e).attn = s.attn := by rw [abortQueue_frame]
  rw [State.stopEndpoint, State.clearDrainAfterResume, enterDisabled_setDescriptor]
  simp only [State.setDescriptor, State.setAttn, abortQueue_endpoints, attn]

/-- The ending of STOPPING touches what the end of the queue touches, the descriptor and the record. -/
theorem stopEndpoint_frame (s : State) (e : EndpointId) : s.stopEndpoint e = { s with
    endpoints := s.endpoints.set e { s.endpoints[e] with state := .disabled, drainAfterResume := false }
    attn := s.attn.set e ⟨.idle, none, 0⟩
    slots := (s.stopEndpoint e).slots
    queues := (s.stopEndpoint e).queues
    completions := (s.stopEndpoint e).completions
    freeBlocks := (s.stopEndpoint e).freeBlocks
    notices := (s.stopEndpoint e).notices
    credits := (s.stopEndpoint e).credits
    link := { s.link with due := { s.link.due with ack := (s.stopEndpoint e).link.due.ack } } } := by
  rw [stopEndpoint_eq, abortQueue_frame]

/-- The ending of STOPPING ends an abortable queue. -/
theorem queueEnded_stopEndpoint (h : s.Abortable e) : s.QueueEnded e (s.stopEndpoint e) := by
  rw [stopEndpoint_eq]
  exact (queueEnded_abortQueue h).of_same rfl (fun _ _ => rfl) (fun _ _ => rfl) rfl rfl

end Sys2Proof.Machine
end

section
/-! PROOFS. ABORT-ENDPOINT with a transaction in hand (R31, R80), and the two events that end one (R69, R78). -/

namespace Sys2Proof.Machine

variable {s : State} {e : EndpointId} {l : LaneId}

/-! ### The slots behind the cut (R31, R41) -/

/-- The slots that ABORT-ENDPOINT marks at once. -/
theorem behindTheCut_eq (s : State) (e : EndpointId) : s.behindTheCut e =
    if s.engines[s.endpoints[e].lane].currentSlot = none then s.queues[e] else s.queues[e].tail := by
  unfold State.behindTheCut
  cases s.engines[s.endpoints[e].lane].currentSlot <;> simp

/-- They all stand in the queue. -/
theorem mem_queue_of_behindTheCut {i : SlotId} (h : i ∈ s.behindTheCut e) : i ∈ s.queues[e] := by
  rw [behindTheCut_eq] at h
  split at h
  · exact h
  · exact List.mem_of_mem_tail h

/-- A slot marked has status ABORTED, unless it had a status already; no other slot is changed. -/
theorem markAborted_slots (s : State) (marked : List SlotId) (i : SlotId) :
    (s.markAborted marked).slots[i] = if i ∈ marked then s.slots[i].aborted else s.slots[i] := by
  simp only [State.markAborted, tabulate_get]
  rfl

/-! ### ABORT-ENDPOINT inside a transaction (R31) -/

/-- The state in which the transaction in hand is cut: the endpoint STOPPING, the slots behind the cut marked (R31). -/
def State.stopping (s : State) (e : EndpointId) : State :=
  (s.setEpState e .stopping).markAborted (s.behindTheCut e)

theorem stopping_slots (s : State) (e : EndpointId) (i : SlotId) :
    (s.stopping e).slots[i] = if i ∈ s.behindTheCut e then s.slots[i].aborted else s.slots[i] :=
  markAborted_slots (s.setEpState e .stopping) _ i

/-- Marking slots of the queue leaves it to end as before (R41). -/
theorem stopping_aborted (s : State) (e : EndpointId) (i : SlotId) :
    (s.stopping e).slots[i].aborted = s.slots[i].aborted := by
  rw [stopping_slots]
  split <;> rfl

/-- A marked queue is abortable when it was so before. -/
theorem stopping_abortable (h : s.Abortable e) : (s.stopping e).Abortable e := by
  refine ⟨h.nodup, fun i hi => ?_⟩
  rw [stopping_slots]
  split
  · exact .inr (congrArg some (h.getD_status hi))
  · exact h.status i hi

/-- A STOPPING endpoint keeps its gapBits. -/
theorem stopping_gapBits (s : State) (e : EndpointId) :
    (s.stopping e).endpoints[e].gapBits = s.endpoints[e].gapBits := by
  show (s.endpoints.set e { s.endpoints[e] with state := .stopping })[e].gapBits = _
  rw [get_set_same]

/-- An endpoint that was STOPPING is DISABLED as if it had not been. -/
theorem stopping_endpoints_disabled (s : State) (e : EndpointId) :
    (s.stopping e).endpoints.set e
        { (s.stopping e).endpoints[e] with state := .disabled, drainAfterResume := false } =
      s.endpoints.set e { s.endpoints[e] with state := .disabled, drainAfterResume := false } := by
  have stopping : (s.stopping e).endpoints = s.endpoints.set e { s.endpoints[e] with state := .stopping } := rfl
  simp only [stopping, get_set_same, Vector.set_set]

/-- An engine set to what it is. -/
theorem setEngine_self (s : State) (l : LaneId) : s.setEngine l s.engines[l] = s := by
  simp only [State.setEngine, Fin.getElem_fin, Vector.set_getElem_self]

/-- Setting an engine leaves what a queue ends as. -/
theorem abortable_setEngine (h : s.Abortable e) (g : Engine) : (s.setEngine l g).Abortable e := ⟨h.nodup, h.status⟩

/-! ### READY_TIMEOUT (R69) -/

theorem execReadyTimeout_outside (hs : s.resetHeld = false) (hg : s.engines[l].engineState ≠ .waitReady) :
    exec (.readyTimeout l) s = .next s := by
  show unlessHeld s _ = _
  rw [unlessHeld_of_high hs]
  split
  · next h => exact absurd h hg
  all_goals rfl

/-- In WAIT_READY with slot `i` of endpoint `e` in hand (R35, R69). -/
theorem execReadyTimeout_of_waitReady {i : SlotId} (hs : s.resetHeld = false)
    (hg : s.engines[l].engineState = .waitReady) (he : s.engines[l].currentEndpoint = some e)
    (hi : s.engines[l].currentSlot = some i) : exec (.readyTimeout l) s =
      .next (((s.setEngine l (s.engines[l].afterRelease s.endpoints[e].gapBits)).endSlot e i .timeout).setDescriptor e
        s.endpoints[e].halt) := by
  show unlessHeld s _ = _
  simp only [unlessHeld_of_high hs, hg, he, hi, gapBitsOf_of_current he, released_eq_afterRelease, endSlot_endpoints,
    State.setEngine_endpoints]

/-! ### RELEASE (R72, R78) -/

theorem execRelease_outside (hs : s.resetHeld = false)
    (h : s.engines[l].engineState ≠ .shifting ∨ s.engines[l].phase ≠ some .trail ∨ s.engines[l].completing ≠ none) :
    exec (.release l) s = .next s := by
  show unlessHeld s _ = _
  rw [unlessHeld_of_high hs]
  split
  · next hg hp hc => exact (h.elim (· hg) fun h => h.elim (· hp) (· hc)).elim
  · rfl

section

variable (hs : s.resetHeld = false) (hg : s.engines[l].engineState = .shifting)
  (hp : s.engines[l].phase = some .trail) (hcomp : s.engines[l].completing = none)
  (he : s.engines[l].currentEndpoint = some e)
include hs hg hp hcomp he

/-- In TRAIL, every input taken, the select is released and the transaction reported. -/
theorem execRelease_of_trail : exec (.release l) s =
    .next ((s.setEngine l (s.engines[l].afterRelease s.endpoints[e].gapBits)).report s.engines[l]) := by
  show unlessHeld s _ = _
  simp only [unlessHeld_of_high hs, hg, hp, hcomp, finishTransaction_of_current he]

theorem execRelease_of_link (hc : s.engines[l].cut = .link) : exec (.release l) s =
    .next ((s.setEngine l (s.engines[l].afterRelease s.endpoints[e].gapBits)).reportLinkCut e) := by
  rw [execRelease_of_trail hs hg hp hcomp he, report_of_link he _ hc]

/-- After a cut by ABORT, and by a link reset for a STOPPING endpoint, the queue ends (R36, R37). -/
theorem execRelease_of_stopping
    (hc : s.engines[l].cut = .abort ∨ s.engines[l].cut = .link ∧ s.endpoints[e].state = .stopping) :
    exec (.release l) s =
      .next ((s.setEngine l (s.engines[l].afterRelease s.endpoints[e].gapBits)).stopEndpoint e) := by
  rcases hc with hc | ⟨hc, hst⟩
  · rw [execRelease_of_trail hs hg hp hcomp he, report_of_abort he _ hc]
  · rw [execRelease_of_link hs hg hp hcomp he hc]
    simp only [State.reportLinkCut, State.setEngine_endpoints, hst]

end

/-- The report of a link cut for an endpoint that is ACTIVE, or DRAINING with slots in its queue, changes nothing (R37). -/
theorem reportLinkCut_of_kept (h : s.endpoints[e].state = .draining ∧ s.queues[e] ≠ [] ∨ s.endpoints[e].state = .active) :
    s.reportLinkCut e = s := by
  rcases h with ⟨hst, hq⟩ | hst
  · simp only [State.reportLinkCut, hst]
    exact if_neg fun h => hq h.2
  · simp only [State.reportLinkCut, hst]

/-- The report of a link cut for a DRAINING endpoint whose queue is empty: it becomes DISABLED (R34, R37). -/
theorem reportLinkCut_of_drained (hst : s.endpoints[e].state = .draining) (hq : s.queues[e] = []) :
    s.reportLinkCut e = s.enterDisabled e := by
  simp only [State.reportLinkCut, hst]
  exact if_pos ⟨hst, hq⟩

/-- A head is a REGISTER request with beats still to do (R59). -/
theorem moreBeats_iff {sl : Slot} {t : Snapshot} (h : sl.translation = some t) :
    sl.moreBeats = true ↔ t.kind = .register ∧ sl.beatsDone < sl.length.toNat := by
  simp [Slot.moreBeats, h]

/-- The queue of the endpoint loses the slot that ends (R60, R61). -/
theorem endSlot_queues (s : State) (e : EndpointId) (i : SlotId) (x : MemStatus) :
    (s.endSlot e i x).queues[e] = s.queues[e].erase i := by
  rw [endSlot_frame]
  exact get_set_same ..

end Sys2Proof.Machine
end

section
/-! PROOFS. O34, O35, O36: ABORT-ENDPOINT, and DISABLE-ENDPOINT from HALTED. -/

namespace Sys2Proof.Proofs

open Sys2Proof.Machine

/-- Settles O34: both commands are the ending of STOPPING, which ends the queue head first. -/
theorem queueEndedByCommand : Obligations.QueueEndedByCommand := by
  intro s r rest e c ht hp he hnodup hstatus hcase
  let u : State := { s with cfgHanded := rest }
  have ended : u.QueueEnded e (u.stopEndpoint e) := queueEnded_stopEndpoint ⟨hnodup, hstatus⟩
  have frame := stopEndpoint_frame u e
  have taken : exec c s = .next { u.stopEndpoint e with
      replies := (u.stopEndpoint e).replies ++ [⟨r.tag, .ok, none, []⟩]
      lastCommand := ⟨r.word0.extractLsb' 24 8, r.word0.extractLsb' 0 8, .ok⟩ } := by
    rcases hcase with ⟨rfl, hc, hst⟩ | ⟨rfl, hc, hst⟩
    · exact takeEndpointCommand ht hc hp he (abortEndpoint_of_outside (s := u) hst)
    · exact takeEndpointCommand ht hc hp he (disableEndpoint_of_halted (s := u) hst)
  refine ⟨_, taken, queueAborted_of_queueEnded (ended.of_same rfl (fun _ _ => rfl) (fun _ _ => rfl) rfl rfl), ?_⟩
  generalize u.stopEndpoint e = t at frame ⊢
  rw [frame]
  rfl

/-- Settles O35: the cut by where it finds the engine, on the state with the endpoint STOPPING and the slots marked. -/
theorem abortCutsTheTransaction : Obligations.AbortCutsTheTransaction := by
  intro s r rest e ht hc hp he hst hin l g behind cutBy
  let u : State := { s with cfgHanded := rest }
  have cut {h : Engine} (hcut : (u.stopping e).cutByAbort l = (u.stopping e).setEngine l h) : ∃ t, cutBy h t := by
    have aborted := (abortEndpoint_of_inside (s := u) hst hin).trans (congrArg (Prod.mk _) hcut)
    refine ⟨_, takeEndpointCommand ht hc hp he aborted, fun i => ?_, rfl⟩
    have hbehind : u.behindTheCut e = behind := behindTheCut_eq ..
    exact (stopping_slots u e i).trans (by rw [hbehind]; rfl)
  refine ⟨fun hg hnot hlead hdummy hb => ?_, fun hg hnot h => ?_, fun hlink => ?_⟩
  · exact cut (cutByAbort_of_unitInFlight hnot ⟨hg, hlead, hdummy, hb⟩)
  · exact cut (cutByAbort_of_betweenUnits hnot ⟨hg, h⟩)
  · exact cut ((cutByAbort_of_link (s := u.stopping e) hlink).trans (setEngine_self (u.stopping e) l).symm)

/-- Settles O36: the cut before the first unit releases the engine and is the ending of STOPPING, which ends the queue
as if nothing had been marked. -/
theorem abortBeforeTheFirstUnit : Obligations.AbortBeforeTheFirstUnit := by
  intro s r rest e ht hc hp he hst hin hnodup hstatus l g hnot hplace
  have before : g.BeforeFirstUnit := by
    rcases hin.1 with hg | hg
    · exact .inl hg
    · exact hplace.imp_right fun hp => ⟨hg, hp⟩
  let u : State := { s with cfgHanded := rest }
  let v := (u.stopping e).setEngine l (g.afterRelease s.endpoints[e].gapBits)
  have released : (u.stopping e).cutByAbort l = v.stopEndpoint e := by
    have cut := cutByAbort_of_beforeFirstUnit (s := u.stopping e) hnot hin.2 before
    rwa [stopping_gapBits] at cut
  have aborted := (abortEndpoint_of_inside (s := u) hst hin).trans (congrArg (Prod.mk _) released)
  have ended : v.QueueEnded e (v.stopEndpoint e) :=
    queueEnded_stopEndpoint (abortable_setEngine (stopping_abortable (s := u) ⟨hnodup, hstatus⟩) _)
  refine ⟨_, takeEndpointCommand ht hc hp he aborted, queueAborted_of_queueEnded
    (ended.of_same rfl (fun i _ => stopping_aborted u e i) (fun i hi => ?_) rfl rfl), ?_⟩
  · exact (stopping_slots u e i).trans (if_neg fun h => hi (mem_queue_of_behindTheCut h))
  · have kept {α : Type} (f : State → α) := congrArg f (stopEndpoint_frame v e)
    exact ⟨kept State.engines, (kept State.endpoints).trans (stopping_endpoints_disabled u e), kept State.attn,
      kept fun t => t.replies ++ [⟨r.tag, .ok, none, []⟩], rfl, kept State.cfgHanded, kept State.windows,
      kept State.pool, kept State.immediate⟩

end Sys2Proof.Proofs
end

section
/-! PROOFS. O48, O52, O53: READY_TIMEOUT and RELEASE. -/

namespace Sys2Proof.Proofs

open Sys2Proof.Machine

/-- Settles O48: the engine released, the head ended, and then the descriptor halted. -/
theorem readyTimeout : Obligations.ReadyTimeout := by
  refine fun s l hs => ⟨execReadyTimeout_outside hs, fun e i hg he hi => ?_⟩
  rw [execReadyTimeout_of_waitReady hs hg he hi, State.setDescriptor, endSlot_endpoints]
  rfl

/-- Settles O52: the report of an uncut transaction, by what the head has left and what its queue has left. -/
theorem releaseAfterTheLastWord : Obligations.ReleaseAfterTheLastWord := by
  intro s l e i sl t hs hin hg hp hcut hcomp counted more ended
  obtain ⟨he, hi, rfl, htr⟩ := hin
  have reported : exec (.release l) s =
      .next (if s.slots[i].moreBeats then counted else ended.drainIfEmpty e) := by
    rw [execRelease_of_trail hs hg hp hcomp he, report_of_uncut he _ hcut, hi]
    rfl
  have endpoints : ended.endpoints = s.endpoints.set e
      { s.endpoints[e] with transactionsDone := s.endpoints[e].transactionsDone + 1 } := endSlot_endpoints counted e i .ok
  have state : ended.endpoints[e].state = s.endpoints[e].state := by
    rw [endpoints, get_set_same]
  have queue : ended.queues[e] = s.queues[e].erase i := endSlot_queues counted e i .ok
  refine ⟨fun hmore => ?_, fun hno h => ?_, fun hno hst hq => ?_⟩
  · rw [reported, if_pos ((moreBeats_iff htr).mpr hmore)]
  · rw [reported, if_neg (mt (moreBeats_iff htr).mp hno)]
    refine congrArg _ (if_neg ?_)
    rw [state, queue]
    exact fun ⟨hst, hq⟩ => h.elim (· hst) (· hq)
  · rw [reported, if_neg (mt (moreBeats_iff htr).mp hno)]
    refine congrArg _ (if_pos ?_)
    rw [state, queue]
    exact ⟨hst, hq⟩

/-- Settles O53: the report of a cut transaction, by the cut and the endpoint's state. -/
theorem releaseAfterACut : Obligations.ReleaseAfterACut := by
  refine fun s l hs => ⟨execRelease_outside hs, ?_⟩
  intro e hg hp hcomp he d engines
  refine ⟨fun hc hnodup hstatus => ?_, fun hc hst hq => ?_, fun hc hst => ?_⟩
  · have ended := queueEnded_stopEndpoint
      (abortable_setEngine (l := l) ⟨hnodup, hstatus⟩ (s.engines[l].afterRelease d.gapBits))
    exact ⟨_, execRelease_of_stopping hs hg hp hcomp he hc,
      queueAborted_of_queueEnded (ended.of_same rfl (fun _ _ => rfl) (fun _ _ => rfl) rfl rfl),
      stopEndpoint_frame _ e⟩
  · exact (execRelease_of_link hs hg hp hcomp he hc).trans (congrArg _ (reportLinkCut_of_drained hst hq))
  · exact (execRelease_of_link hs hg hp hcomp he hc).trans (congrArg _ (reportLinkCut_of_kept hst))

end Sys2Proof.Proofs
end

section
/-! PROOFS. Credits granted, slots freed, requests ended (R42, R60, R61, R138, R155). -/

namespace Sys2Proof.Machine

/-- Noting the totals makes an ACK due while UP when they differ from those last reported (R138, R158). -/
theorem noteTotals_eq (s : State) : s.noteTotals = { s with link := { s.link with due := { s.link.due with
    ack := s.link.due.ack || (decide (s.link.linkState = .up) && decide (s.totals ≠ s.link.reportedTotals)) } } } := by
  unfold State.noteTotals
  split
  · next h =>
    rw [decide_eq_true h.1, decide_eq_true h.2, Bool.and_self, Bool.or_true]
    rfl
  · next h =>
    have none_due : (decide (s.link.linkState = .up) && decide (s.totals ≠ s.link.reportedTotals)) = false := by
      rw [← Bool.decide_and, decide_eq_false h]
    rw [none_due, Bool.or_false]

/-- Returning blocks keeps the free set in rising order (R50). -/
theorem foldr_insertBlock_rising (bl : List BlockId) {free : List BlockId} (h : free.Pairwise (· < ·)) :
    (bl.foldr insertBlock free).Pairwise (· < ·) := by
  induction bl with
  | nil => exact h
  | cons b bl ih => exact insertBlock_rising b ih

/-- A non-posted slot that ends is COMPLETE at the tail of the completion list, with a status set before kept (R41,
R60). -/
theorem endSlot_of_complete {s : State} {i : SlotId} (hp : s.slots[i].posted = false) (e : EndpointId)
    (status : MemStatus) : s.endSlot e i status = { s with
      slots := s.slots.set i { s.slots[i] with state := .complete, status := some (s.slots[i].status.getD status) }
      queues := s.queues.set e (s.queues[e].erase i)
      completions := s.completions.set e (s.completions[e] ++ [i]) } := by
  simp only [State.endSlot, hp, Bool.false_eq_true, if_false]
  simp [State.setSlot, State.setQueue, State.setCompletion]

end Sys2Proof.Machine
end

section
/-! PROOFS. O21, O23: grants, freed slots, and the end of a request. -/

namespace Sys2Proof.Proofs

open Sys2Proof.Machine

/-- Settles O21: a grant notes the totals it changed, and a slot's blocks return to the free set one by one. -/
theorem creditsGrantedAndSlotsFreed : Obligations.CreditsGrantedAndSlotsFreed :=
  ⟨fun _ _ _ _ => noteTotals_eq _, fun s i => ⟨freeSlot_frame s i, fun b => mem_foldr_insertBlock b s.slots[i].blocks _,
    foldr_insertBlock_rising s.slots[i].blocks⟩⟩

/-- Settles O23, by whether the slot is posted and what it ends with. -/
theorem requestEnds : Obligations.RequestEnds := by
  refine fun s e i status => ⟨fun hp => endSlot_of_complete hp e status, fun hp hst => ?_, fun hp hst => ?_⟩
  · simp only [State.endSlot, hp, if_true, if_pos hst]
    rfl
  · simp only [State.endSlot, hp, if_true, if_neg hst]
    rfl

end Sys2Proof.Proofs
end

section
/-! PROOFS. What a link reset leaves, by each of its causes (R63, R109, R148). -/

namespace Sys2Proof.Machine

variable {s : State}

/-- A cause of a link reset is a SYNC taken while UP, or fails the link (R148). -/
theorem exec_of_linkResetBy_cases {c : Instr} (h : s.LinkResetBy c) :
    exec c s = .next s.takeSync ∨ exec c s = .next s.linkFailure := by
  obtain ⟨hs, hup, ⟨f, p, rfl, hf, hrest, hzero⟩ | ⟨rfl, htimer, hmax⟩ |
    ⟨f, p, rfl, hf, hrest, hzero, hseq, hbuf, hmax⟩⟩ := h
  · left
    show unlessHeld s _ = _
    simp only [unlessHeld_of_high hs, hf, syncWellFormed_of_zero hrest hzero, if_true]
  · right
    show unlessHeld s _ = _
    rw [unlessHeld_of_high hs, if_pos ⟨hup, Option.isSome_iff_ne_none.mpr htimer⟩, startReplay_of_max hmax]
  · right
    show unlessHeld s _ = _
    simp only [unlessHeld_of_high hs, hf, hup, ackWellFormed_of_zero hrest hzero, hseq, inWindow_oldestSeq,
      takeNak_oldestSeq hbuf, startReplay_of_max hmax, reduceCtorEq, if_false, if_true]

/-- Every slot is freed and every list and hand-on queue is empty. -/
structure State.Emptied (s t : State) : Prop where
  slots : ∀ i : SlotId, t.slots[i] = s.slots[i].freed
  queues : ∀ e : EndpointId, t.queues[e] = []
  completions : ∀ e : EndpointId, t.completions[e] = []
  immediate : t.immediate = []
  freeBlocks : t.freeBlocks = allBlocks
  memHanded : t.memHanded = []
  cfgHanded : t.cfgHanded = []
  replies : t.replies = []

/-- A link reset frees every slot and empties every list (R63). -/
theorem linkReset_emptied (s : State) : s.Emptied s.linkReset :=
  ⟨linkReset_slots s, linkReset_queues s, linkReset_completions s, rfl, rfl, rfl, rfl, rfl⟩

end Sys2Proof.Machine
end

section
/-! PROOFS. O17: a link reset on the lists. -/

namespace Sys2Proof.Proofs

open Sys2Proof.Machine

/-- Settles O17: a SYNC and a failed link perform the one link reset, and differ only in the Link Port's record and the
credits. -/
theorem linkResetEmptiesTheLists : Obligations.LinkResetEmptiesTheLists := by
  intro s c hcause
  have hup : s.link.linkState = .up := hcause.2.1
  have lists := linkReset_emptied s
  have none_outstanding (e : EndpointId) : s.linkReset.outstanding e = 0 := by
    simp only [State.outstanding, lists.queues, lists.completions, List.length_nil]
  have emptied (e : EndpointId) :
      s.linkReset.queues[e] = [] ∧ s.linkReset.completions[e] = [] ∧ s.linkReset.outstanding e = 0 :=
    ⟨lists.queues e, lists.completions e, none_outstanding e⟩
  rcases exec_of_linkResetBy_cases hcause with h | h
  · rw [State.takeSync, if_pos hup] at h
    exact ⟨_, h, lists.slots, emptied, rfl, rfl, rfl, rfl, rfl, rfl, rfl, rfl, rfl, rfl, rfl, rfl, rfl, rfl, rfl,
      fun down => LinkState.noConfusion down⟩
  · exact ⟨_, h, lists.slots, emptied, rfl, rfl, rfl, rfl, rfl, rfl, rfl, rfl, rfl, rfl, rfl, rfl, rfl, rfl, rfl,
      fun _ => rfl⟩

end Sys2Proof.Proofs
end

section
/-! PROOFS. MEM requests refused (chapters 1 and 3): the check that fails, and what refusal makes of the slot (R53 to
R57). -/

namespace Sys2Proof.Machine

variable {s : State} {m : MemRequest}

/-- The credits a request needs, counted as the manual counts them (R50, R52). -/
theorem dataCreditsFor_eq (m : MemRequest) : dataCreditsFor m.length = dataNeeded m := by
  simp only [dataCreditsFor, dataNeeded, memLengthOk, blocksFor, decide_eq_true_eq]

/-- No entry covers the address, so none is looked up (R3). -/
theorem lookup_of_uncovered {a : Word} (h : ∀ w : WindowId, ¬ s.Covers w a) : s.lookup a = none :=
  List.find?_eq_none.mpr fun w _ hw => h w ((contains_iff_covers s w a).mp hw)

/-- Length and alignment hold (R53, check 1). -/
theorem wellShaped_of_bounds (h1 : 1 ≤ m.length.toNat) (h64 : m.length.toNat ≤ 64) (ha : m.address.toNat % 4 = 0) :
    ¬ (memLengthOk m.length = false ∨ m.address.toNat % 4 ≠ 0) := by
  simp only [memLengthOk, h1, h64, ha]
  simp

/-- An entry holds a request whole when it lies inside (R4). -/
theorem holdsWhole_iff (w : WindowId) : s.windows[w].holdsWhole m = true ↔ s.InsideWindow m w :=
  decide_eq_true_iff

/-- The first check that fails gives the refusal (R53). -/
theorem check_of_refuses {status : MemStatus} {matched : Option WindowId} (h : s.Refuses m status matched) :
    s.check m = .refused status matched := by
  obtain ⟨rfl, rfl, hbad⟩ | ⟨rfl, rfl, h1, h64, ha, hno⟩ | ⟨w, rfl, ⟨h1, h64, ha, hcov, huniq⟩, hfail⟩ := h
  · refine if_pos ?_
    simp only [memLengthOk, decide_eq_false_iff_not]
    omega
  · simp only [State.check, if_neg (wellShaped_of_bounds h1 h64 ha), lookup_of_uncovered hno]
  · simp only [State.check, if_neg (wellShaped_of_bounds h1 h64 ha), lookup_of_covers hcov huniq]
    obtain ⟨rfl, hout⟩ | ⟨rfl, hin, hno⟩ | ⟨hin, hall, hep⟩ := hfail
    · rw [if_pos (Bool.not_eq_true _ ▸ mt (holdsWhole_iff w).mp hout)]
    · have whole := (holdsWhole_iff w).mpr hin
      rw [if_neg (by rw [whole]; exact Bool.noConfusion), if_pos (Bool.not_eq_true _ ▸ mt (allows_iff s m w).mp hno)]
    · have whole := (holdsWhole_iff w).mpr hin
      have allowed := (allows_iff s m w).mpr hall
      rw [if_neg (by rw [whole]; exact Bool.noConfusion), if_neg (by rw [allowed]; exact Bool.noConfusion)]
      obtain ⟨rfl, hst⟩ | ⟨rfl, hact, hhalt⟩ | ⟨rfl, hst, hfull⟩ := hep
      · simp only [hst, EpState.refusal]
      · cases hst : s.endpoints[s.windows[w].endpoint].state with
        | active => exact absurd hst hact
        | halted => exact absurd hst hhalt
        | disabled | draining | stopping => simp only [EpState.refusal]
      · simp only [hst, EpState.refusal]
        exact if_neg hfull

/-- A refused request is taken into the lowest free slot and refused there (R52, R53). -/
theorem exec_memCommand_of_refuses {rest : List MemRequest} {status : MemStatus} {matched : Option WindowId}
    {i : SlotId}
    (hs : s.resetHeld = false) (hm : s.memHanded = m :: rest) (hfree : s.LowestFree i)
    (href : s.Refuses m status matched) :
    exec (memCommand m.direction) s = .next (refuse m status matched i { s with memHanded := rest }) := by
  have slot : ({ s with memHanded := rest } : State).lowestFreeSlot = some i := lowestFreeSlot_of_lowestFree hfree
  have check : ({ s with memHanded := rest } : State).check m = .refused status matched := check_of_refuses href
  rw [exec_memCommand, unlessHeld_of_high hs]
  simp only [takeMem, hm, if_true, takeRequest, slot, check]

/-- A read, and a write that matched no posted window, is refused as non-posted (R54). -/
theorem refuse_of_non_posted {matched : Option WindowId}
    (h : m.direction = .read ∨ matched = none ∨ ∃ w, matched = some w ∧ s.windows[w].posted = false)
    (status : MemStatus) (i : SlotId) : refuse m status matched i s = refuseNonPosted m status i s := by
  unfold refuse
  split
  · next hd =>
    obtain h | h | ⟨v, hv, hp⟩ := h
    · exact Direction.noConfusion (hd.symm.trans h)
    · cases h
    · cases hv
      rw [hp]
      exact if_neg Bool.false_ne_true
  · rfl
  · rfl

/-- A write that matched a posted window is refused as posted (R54). -/
theorem refuse_of_posted {w : WindowId} (hd : m.direction = .write) (hp : s.windows[w].posted = true)
    (status : MemStatus) (i : SlotId) :
    refuse m status (some w) i s = refusePosted m status s.windows[w].endpoint i s := by
  simp only [refuse, hd, hp, if_true]

end Sys2Proof.Machine
end

section
/-! PROOFS. O20: refusals. -/

namespace Sys2Proof.Proofs

open Sys2Proof.Machine

/-- Settles O20: the first check that fails decides, and the request is refused as posted or as non-posted. -/
theorem memRequestRefused : Obligations.MemRequestRefused := by
  intro s m rest status matched i hs hm hfree href
  have refused := exec_memCommand_of_refuses hs hm hfree href
  refine ⟨fun h => ?_, fun w hd hw hp => ?_⟩
  · rw [refused, refuse_of_non_posted (s := { s with memHanded := rest }) h, refuseNonPosted, dataCreditsFor_eq]
    rfl
  · subst hw
    rw [refused, refuse_of_posted (s := { s with memHanded := rest }) hd hp, refusePosted, dataCreditsFor_eq]
    rfl

end Sys2Proof.Proofs
end

section
/-! PROOFS. The choice of a slot to answer, and its reply (R62, R99, R100, R103 to R107). -/

namespace Sys2Proof.Machine

variable {s : State}

/-! ### The choice (R103, R106) -/

/-- With no control packet due and no replay in progress, a FREE transmitter of an UP link sends a sequenced source
(R103). -/
theorem choice_of_sendsSequenced (h : s.SendsSequenced) : s.choice = s.sequencedCandidate := by
  obtain ⟨-, hfree, hup, hdue, hreplay⟩ := h
  simp [State.choice, LinkPort.dueCandidate, hfree, hup, hdue, hreplay]

/-- No attention can be sent (R103). -/
theorem attnCandidate_of_none (h : s.NoAttnReady) : s.attnCandidate = none :=
  List.find?_eq_none.mpr fun e _ he => h e (by simpa only [Bool.and_eq_true, decide_eq_true_eq] using he)

/-- Below 13 packets, with candidates 3 to 5 absent, the choice is a slot to answer: the head of the immediate list, and
only when that is empty the head of the completion list found (R103, R104, R106). -/
theorem choice_of_sendsSlotReplies (h : s.SendsSlotReplies) : s.choice =
    (s.immediate.head?.map .immediate).or
      ((s.firstCompletion (completionOrder s.nextCompletion)).map fun x => .completion x.1 x.2) := by
  obtain ⟨hseq, hreplies, hnotices, hattn, hplaces⟩ := h
  have below : ¬ Config.replayPlaces ≤ s.link.replayBuffer.length := by
    simp only [Config.replayPlaces]
    omega
  have data_below : ¬ Config.dataReplyPlaces ≤ s.link.replayBuffer.length := not_le.mpr hplaces
  rw [choice_of_sendsSequenced hseq, State.sequencedCandidate]
  simp only [if_neg below, hreplies, hnotices, attnCandidate_of_none hattn, if_neg data_below]
  cases s.immediate <;> rfl

/-- The list searched first that is not empty gives its head (R106). -/
theorem firstCompletion_eq_find? (s : State) (es : List EndpointId) : s.firstCompletion es =
    (es.find? fun e => decide (s.completions[e] ≠ [])).bind fun e => s.completions[e].head?.map fun i => (e, i) := by
  induction es with
  | nil => rfl
  | cons e es ih =>
    rw [State.firstCompletion, List.find?_cons]
    cases hq : s.completions[e] with
    | nil => simpa using ih
    | cons i q => simp [hq, -Fin.getElem_fin]

/-- The search goes from nextCompletion on, modulo 16 (R106). -/
theorem firstCompletion_of_first {k : Fin 16} {i : SlotId} {is : List SlotId}
    (hempty : ∀ j : Fin 16, j < k → s.completions[s.nextCompletion + j] = [])
    (hk : s.completions[s.nextCompletion + k] = i :: is) :
    s.firstCompletion (completionOrder s.nextCompletion) = some (s.nextCompletion + k, i) := by
  have first : (List.finRange 16).find? (fun j => decide (s.completions[s.nextCompletion + j] ≠ [])) = some k :=
    find?_finRange_of_first (by simp only [hk]; rfl) fun j hj => by simp only [hempty j hj]; rfl
  rw [firstCompletion_eq_find?, completionOrder, List.find?_map]
  simp only [Function.comp_def, first, Option.map_some, Option.bind_some, hk, List.head?_cons]

/-! ### The reply of a slot (R99, R100) -/

/-- A beat read as a place of the pool (R7, R51). -/
theorem readBeat_eq_getD (bl : List BlockId) (k : Nat) (pool : Pool) :
    readBeat bl k pool = (bl[k / 8]?.bind fun b => (pool[b])[k % 8]?).getD 0 := by
  cases hb : bl[k / 8]? with
  | none => simp only [readBeat, hb, Option.bind_none, Option.getD_none]
  | some b => rw [Option.bind_some, getElem?_eq_readBeat hb, Option.getD_some]

/-- The command of its direction answers the slot chosen from the immediate list. -/
theorem exec_replyCommand_of_immediate {i : SlotId} (hs : s.resetHeld = false) (hc : s.choice = some (.immediate i)) :
    exec (replyCommand s.slots[i].direction) s = .next (s.sendImmediate i) := by
  have sent : s.sendSlotReply s.slots[i].direction (.immediate i) = some (s.sendImmediate i) := if_pos rfl
  cases hd : s.slots[i].direction <;> rw [hd] at sent <;> exact onChoice_of_chosen hs hc sent

/-- The command of its direction answers the slot chosen from a completion list. -/
theorem exec_replyCommand_of_completion {e : EndpointId} {i : SlotId} (hs : s.resetHeld = false)
    (hc : s.choice = some (.completion e i)) :
    exec (replyCommand s.slots[i].direction) s = .next (s.sendCompletion e i) := by
  have sent : s.sendSlotReply s.slots[i].direction (.completion e i) = some (s.sendCompletion e i) := if_pos rfl
  cases hd : s.slots[i].direction <;> rw [hd] at sent <;> exact onChoice_of_chosen hs hc sent

end Sys2Proof.Machine
end

section
/-! PROOFS. O44: the replies of slots. -/

namespace Sys2Proof.Proofs

open Sys2Proof.Machine

/-- Settles O44: the arbiter's choice, and then the slot answered as its list has it. -/
theorem slotRepliesSent : Obligations.SlotRepliesSent := by
  intro s i is st hsends hst sl body
  have hs : s.resetHeld = false := hsends.1.1
  have choice := choice_of_sendsSlotReplies hsends
  have reply : s.slotReply i = body := by
    simp only [State.slotReply, hst, Option.getD_some, readBeats, readBeat_eq_getD]
    rfl
  refine ⟨fun himm => ?_, ?_⟩
  · rw [himm] at choice
    rw [exec_replyCommand_of_immediate hs choice, State.sendImmediate, reply, himm]
    rfl
  · intro k himm hempty hk e
    rw [himm, firstCompletion_of_first hempty hk] at choice
    refine ⟨tabulate fun x => if s.attn[x].state = .pending ∧ s.attn[x].fence = some i then
      { s.attn[x] with fence := none } else s.attn[x], fun x => tabulate_get _ x, ?_⟩
    rw [exec_replyCommand_of_completion hs choice, State.sendCompletion, reply, hk, State.setCompletion,
      State.clearFences, State.freeSlot, State.freeSlot]
    rfl

end Sys2Proof.Proofs
end

section
/-! PROOFS. WORD_COMPLETE with a slot in hand (chapter 4): the word assembled, its beat, and what follows it. -/

namespace Sys2Proof.Machine

/-! ### The word assembled (R74, R76) -/

/-- A bit taken in front of the bits already assembled, MSB_FIRST (R74). -/
theorem getLsbD_shiftIn (acc : Word) (b : Bool) {m : Nat} (h : m < 32) :
    ((acc <<< 1) ||| (if b then 1 else 0 : Word)).getLsbD m = if m = 0 then b else acc.getLsbD (m - 1) := by
  have bit : (if b then 1 else 0 : Word).getLsbD m = (decide (m = 0) && b) := by
    cases b <;> simp
  rw [BitVec.getLsbD_or, BitVec.getLsbD_shiftLeft, bit]
  rcases Nat.eq_zero_or_pos m with rfl | hm
  · simp
  · have pos : ¬ m = 0 := by omega
    have one_le : ¬ m < 1 := by omega
    simp only [h, pos, one_le, decide_true, decide_false, Bool.not_false, Bool.true_and, Bool.false_and,
      Bool.or_false, if_false]

/-- MSB_FIRST assembly, bit by bit: the first input taken is the word's highest bit (R74, R76). -/
theorem bitsIn_msbFirst_getLsbD (din : Word) {n : Nat} (hn : n ≤ 32) (m : Nat) :
    (bitsIn .msbFirst n din).getLsbD m = (decide (m < n) && din.getLsbD (n - 1 - m)) := by
  rcases Nat.lt_or_ge m 32 with hm | hm
  case inr =>
    rw [BitVec.getLsbD_of_ge _ _ hm, decide_eq_false (by omega : ¬ m < n), Bool.false_and]
  simp only [bitsIn]
  induction n generalizing m with
  | zero => simp
  | succ n ih =>
    rw [List.range_succ, List.foldl_append, List.foldl_cons, List.foldl_nil, getLsbD_shiftIn _ _ hm]
    split
    · next h => simp [h]
    · next h =>
      have place : n + 1 - 1 - m = n - 1 - (m - 1) := by omega
      rw [ih (by omega) (m - 1) (by omega), place]
      congr 1
      exact decide_eq_decide.mpr (by omega)

/-- LSB_FIRST assembly, bit by bit (R74, R76). -/
theorem bitsIn_lsbFirst_getLsbD (din : Word) {n : Nat} (hn : n ≤ 32) (m : Nat) :
    (bitsIn .lsbFirst n din).getLsbD m = (decide (m < n) && din.getLsbD m) := by
  simp only [bitsIn, BitVec.getLsbD_and, BitVec.getLsbD_ofNat, Nat.testBit_two_pow_sub_one]
  by_cases hm : m < n
  · have : m < 32 := by omega
    simp [hm, this]
  · simp [hm]

/-- A word assembled from its inputs in bitOrder, with zero above (R74, R76). -/
theorem bitsIn_getLsbD (order : BitOrder) (din : Word) {n : Nat} (hn : n ≤ 32) (m : Nat) :
    (bitsIn order n din).getLsbD m =
      (decide (m < n) && din.getLsbD (if order = .lsbFirst then m else n - 1 - m)) := by
  cases order
  · exact bitsIn_msbFirst_getLsbD din hn m
  · exact bitsIn_lsbFirst_getLsbD din hn m

/-! ### Its slot and its beat (R59, R75, R76) -/

section

variable {s : State} {l : LaneId} {e : EndpointId} {i : SlotId} {sl : Slot} {t : Snapshot} (h : s.InHand l e i sl t)
include h

/-- The pool once word `j` of the transaction in hand is complete: a read word stands in its beat. -/
theorem wordDone_of_inHand (j : Nat) (din : Word) : s.wordDone s.engines[l] j din = { s with
    slots := s.slots.set i { sl with beatsDone := sl.beatsDone + 1 }
    pool := match sl.direction with
      | .write => s.pool
      | .read => writeBeat sl.blocks (s.engines[l].beatIndex + j)
          (bitsIn s.endpoints[e].bitOrder s.endpoints[e].wordSize.toNat din) s.pool } := by
  obtain ⟨he, hi, rfl, -⟩ := h
  have descriptor : s.endpointInHand s.engines[l] = s.endpoints[e] := by simp only [State.endpointInHand, he]
  simp only [State.wordDone, hi, descriptor]
  cases s.slots[i].direction <;> rfl

/-- The end of a data word's bit periods with a slot in hand: TRAIL after the last word or under a cut, and otherwise
the next word is awaited (R73, R80). -/
theorem afterWord_of_inHand (hb : s.engines[l].between = false) :
    (s.engines[l].cut ≠ .none ∨ s.engines[l].wordsLeft = 0 → s.engines[l].afterWord = { s.engines[l] with
      phase := some .trail, unitCount := 0, unitOut := [], laneOut := s.engines[l].laneOut ++ s.engines[l].unitOut }) ∧
    (s.engines[l].cut = .none → 1 ≤ s.engines[l].wordsLeft → s.engines[l].afterWord = { s.engines[l] with
      unitCount := s.engines[l].unitCount + 1, between := true, unitOut := []
      laneOut := s.engines[l].laneOut ++ s.engines[l].unitOut }) := by
  have hi : s.engines[l].currentSlot = some i := h.2.1
  generalize s.engines[l] = g at hb hi ⊢
  refine ⟨fun hend => ?_, fun hcut hleft => ?_⟩
  · have trail : g.afterWord = { g with
        phase := some .trail, unitCount := 0, between := false, unitOut := [], laneOut := g.laneOut ++ g.unitOut } :=
      if_pos (hend.imp_right .inl)
    rw [trail, ← hb]
  · refine if_neg ?_
    show ¬ (g.cut ≠ .none ∨ g.wordsLeft = 0 ∨ g.currentSlot = none)
    rw [hcut, hi]
    simp
    omega

end

/-- A beat written: its block's other places and every other block are as before (R7, R51). -/
theorem writeBeat_places {bl : List BlockId} {k : Nat} {b : BlockId} (hb : bl[k / 8]? = some b) (w : Word)
    (pool : Pool) :
    (∀ c : BlockId, c ≠ b → (writeBeat bl k w pool)[c] = pool[c]) ∧
      (∀ p : Fin 8, p.val ≠ k % 8 → (writeBeat bl k w pool)[b][p] = pool[b][p]) ∧
      ∀ p : Fin 8, p.val = k % 8 → (writeBeat bl k w pool)[b][p] = w := by
  rw [writeBeat_of_block hb]
  refine ⟨fun c hc => get_set_other _ _ _ _ hc.symm, fun p hp => ?_, fun p hp => ?_⟩
  · have : beatPlace k ≠ p := fun heq => hp (heq ▸ rfl)
    rw [get_set_same, get_set_other _ _ _ _ this]
  · obtain rfl : beatPlace k = p := Fin.ext hp.symm
    rw [get_set_same, get_set_same]

/-! ### WORD_COMPLETE (R72, R74) -/

/-- The word completing has its last input taken. -/
theorem execWordComplete_of_completing {s : State} {l : LaneId} {n : Nat} (hs : s.resetHeld = false)
    (hg : s.engines[l].engineState = .shifting) (hn : s.engines[l].completing = some n) (din : Word) :
    exec (.wordComplete l din) s = .next ((s.wordDone s.engines[l] n din).setEngine l s.engines[l].inputTaken) := by
  show unlessHeld s _ = _
  simp only [unlessHeld_of_high hs, hg, hn]

/-- With none completing, the word in flight in DATA completes as its bit periods end. -/
theorem execWordComplete_of_inFlight {s : State} {l : LaneId} (hs : s.resetHeld = false)
    (hg : s.engines[l].engineState = .shifting) (hn : s.engines[l].completing = none)
    (hp : s.engines[l].phase = some .data) (hb : s.engines[l].between = false) (hl : s.engines[l].late = false)
    (din : Word) : exec (.wordComplete l din) s =
      .next ((s.wordDone s.engines[l] s.engines[l].unitCount din).setEngine l s.engines[l].afterWord) := by
  show unlessHeld s _ = _
  simp only [unlessHeld_of_high hs, hg, hn, hp, hb, hl, and_self, if_true]

end Sys2Proof.Machine
end

section
/-! PROOFS. O50: WORD_COMPLETE. -/

namespace Sys2Proof.Proofs

open Sys2Proof.Machine

/-- Settles O50: each completion counts and stores its word alike, and the engine is what follows it. -/
theorem wordComplete : Obligations.WordComplete := by
  intro s l e i sl t din hs hin hg g d completes
  have done {n : Nat} {h : Engine}
      (hexec : exec (.wordComplete l din) s = .next ((s.wordDone g n din).setEngine l h)) : completes n h := by
    refine ⟨_, hexec.trans (by rw [wordDone_of_inHand hin]; rfl), fun hw => by rw [hw], fun b hr hb hsize => ?_⟩
    rw [hr]
    obtain ⟨blocks, places, place⟩ := writeBeat_places hb (bitsIn d.bitOrder d.wordSize.toNat din) s.pool
    refine ⟨blocks, places, fun k m hk => ?_⟩
    exact (congrArg (BitVec.getLsbD · m) (place k hk)).trans (bitsIn_getLsbD _ _ hsize m)
  refine ⟨fun hp hb hl hn => ?_, fun n hn => ⟨fun hp => ?_, fun hp => ?_⟩⟩
  · have complete := done (execWordComplete_of_inFlight hs hg hn hp hb hl din)
    obtain ⟨trail, next⟩ := afterWord_of_inHand hin hb
    exact ⟨fun hend => trail hend ▸ complete, fun hcut hleft => next hcut hleft ▸ complete⟩
  · have complete := done (execWordComplete_of_completing hs hg hn din)
    rwa [Engine.inputTaken, if_pos hp] at complete
  · have complete := done (execWordComplete_of_completing hs hg hn din)
    have not_data : ¬ g.phase = some .data := by
      rw [hp]
      simp
    rwa [Engine.inputTaken, if_neg not_data] at complete

end Sys2Proof.Proofs
end

section
/-! PROOFS. What the Outbound Arbiter's choice says of the state it is made in (R103 to R106, R140). -/

namespace Sys2Proof.Machine

/-- A sequenced source may be chosen: the link is UP, no replay is in progress and the replay buffer has a place (R103,
R104). -/
structure State.MaySend (s : State) : Prop where
  up : s.link.linkState = .up
  no_replay : s.link.replayInProgress = false
  place : s.link.replayBuffer.length < Config.replayPlaces

/-- What stands behind a candidate that is chosen (R103). -/
def State.Offers (s : State) : Candidate → Prop
  | .syncAck => s.link.due.syncAck = true
  | .nak => s.link.due.nak = true
  | .ack => s.link.due.ack = true
  | .syncRequest => s.link.due.syncRequest = true
  | .resend p => s.link.replayInProgress = true ∧ s.link.replayPacket = some p
  | .cfgReply r => s.MaySend ∧ ∃ rs, s.replies = r :: rs
  | .notice n => s.MaySend ∧ ∃ ns, s.notices = n :: ns
  | .attn e => s.MaySend ∧ s.attn[e].state = .pending ∧ s.attn[e].fence = none
  | .immediate i => s.MaySend ∧ ∃ is, s.immediate = i :: is
  | .completion e i => s.MaySend ∧ ∃ is, s.completions[e] = i :: is

/-- A control packet chosen is due (R140). -/
theorem offers_of_dueCandidate {s : State} {c : Candidate} (h : s.link.dueCandidate = some c) : s.Offers c := by
  unfold LinkPort.dueCandidate at h
  split_ifs at h <;> cases h <;> assumption

/-- The completion list found is not empty, and its head is what is found (R106). -/
theorem firstCompletion_found {s : State} {es : List EndpointId} {x : EndpointId × SlotId}
    (h : s.firstCompletion es = some x) : ∃ is, s.completions[x.1] = x.2 :: is := by
  rw [firstCompletion_eq_find?, Option.bind_eq_some_iff] at h
  obtain ⟨e, -, h⟩ := h
  obtain ⟨i, hi, rfl⟩ := Option.map_eq_some_iff.mp h
  exact ⟨_, List.eq_cons_of_mem_head? hi⟩

/-- A sequenced candidate chosen stands at the head of its source (R103, R104). -/
theorem offers_of_sequencedCandidate {s : State} {c : Candidate} (hup : s.link.linkState = .up)
    (hreplay : s.link.replayInProgress = false) (h : s.sequencedCandidate = some c) : s.Offers c := by
  unfold State.sequencedCandidate at h
  dsimp only at h
  split at h
  · cases h
  next hplace =>
  have send : s.MaySend := ⟨hup, hreplay, not_le.mp hplace⟩
  split at h
  · next hr => cases h; exact ⟨send, _, hr⟩
  split at h
  · next hn => cases h; exact ⟨send, _, hn⟩
  split at h
  · next e he =>
    cases h
    have found := List.find?_some he
    simp only [Bool.and_eq_true, decide_eq_true_eq] at found
    exact ⟨send, found⟩
  split at h
  · cases h
  split at h
  · next hi => cases h; exact ⟨send, _, hi⟩
  · obtain ⟨x, hx, rfl⟩ := Option.map_eq_some_iff.mp h
    exact ⟨send, firstCompletion_found hx⟩

/-- What the arbiter chooses, the state offers (R103). -/
theorem offers_of_choice {s : State} {c : Candidate} (h : s.choice = some c) : s.Offers c := by
  unfold State.choice at h
  split at h
  · cases h
  split at h
  · next hd => cases h; exact offers_of_dueCandidate hd
  split at h
  · next hr =>
    obtain ⟨p, hp, rfl⟩ := Option.map_eq_some_iff.mp h
    exact ⟨hr, hp⟩
  next hreplay =>
  split at h
  · cases h
  · next hdown =>
    refine offers_of_sequencedCandidate ?_ (Bool.not_eq_true _ ▸ hreplay) h
    cases hl : s.link.linkState
    · exact absurd hl hdown
    · rfl

/-- A packet command keeps a law when sending what the state offers does (R103). -/
theorem leads_onChoice_of_offers {s : State} {P : State → Prop} {act : Candidate → Option State} (hs : P s)
    (hact : ∀ c t, s.Offers c → act c = some t → P t) : Leads (onChoice s act) P := by
  intro t ht
  rcases onChoice_cases ht with rfl | ⟨c, -, -, hc, h⟩
  · exact hs
  · exact hact c t (offers_of_choice hc) h

end Sys2Proof.Machine
end

section
/-! PROOFS. The Transfer Link's law (R130, R131, R138 to R147) through the changes of the Link Port's record. -/

namespace Sys2Proof.Machine

/-! ### The numbers in the replay buffer (R141) -/

/-- The numbers of a list's rest go on from where those dropped end. -/
theorem numbered_drop {a b : SeqNum} {l : List SeqPacket} (h : numbered a l b) (n : Nat) :
    ∃ c, numbered c (l.drop n) b := by
  induction l generalizing a n with
  | nil => exact ⟨b, by rw [List.drop_nil]; rfl⟩
  | cons p l ih =>
    cases n with
    | zero => exact ⟨a, h⟩
    | succ n => exact ih h.2 n

/-- A packet numbered `b` goes on the list. -/
theorem numbered_append {a b : SeqNum} {l : List SeqPacket} (h : numbered a l b) (body : SeqBody) :
    numbered a (l ++ [⟨b, body⟩]) (b + 1) := by
  induction l generalizing a with
  | nil =>
    obtain rfl : a = b := h
    exact ⟨rfl, rfl⟩
  | cons p l ih => exact ⟨h.1, ih h.2⟩

/-- Behind each packet but the last stands the packet with the next number. -/
theorem numbered_next {a b : SeqNum} {l : List SeqPacket} {p : SeqPacket} (h : numbered a l b) (hp : p ∈ l)
    (hlast : l.getLast? ≠ some p) : ∃ q ∈ l, q.seq = p.seq + 1 := by
  induction l generalizing a with
  | nil => cases hp
  | cons x l ih =>
    cases l with
    | nil =>
      obtain rfl : p = x := List.mem_singleton.mp hp
      exact absurd rfl hlast
    | cons y l =>
      obtain ⟨hx, hrest⟩ := h
      rcases List.mem_cons.mp hp with rfl | hp
      · exact ⟨y, by simp, by rw [hrest.1, hx]⟩
      · rw [List.getLast?_cons_cons] at hlast
        obtain ⟨q, hq, hseq⟩ := ih hrest hp hlast
        exact ⟨q, List.mem_cons_of_mem _ hq, hseq⟩

/-- The buffer's law: at most 16 packets, numbered up to outboundNext. -/
theorem bufferLaw_iff (k : LinkPort) : k.bufferLaw ↔
    k.replayBuffer.length ≤ Config.replayPlaces ∧ ∃ a, numbered a k.replayBuffer k.outboundNext := by
  refine and_congr_right fun _ => ⟨fun h => ⟨_, h⟩, fun ⟨a, h⟩ => ?_⟩
  unfold LinkPort.oldestSeq
  split
  · next hb => rw [hb]; rfl
  · next p t hb =>
    rw [hb] at h ⊢
    exact ⟨rfl, h.1 ▸ h.2⟩

/-- The packet a replay sends next stands in the buffer (R145). -/
theorem replayPacket_isSome_iff (k : LinkPort) :
    k.replayPacket.isSome = true ↔ ∃ p ∈ k.replayBuffer, p.seq = k.replayPointer := by
  simp only [LinkPort.replayPacket, List.find?_isSome, decide_eq_true_eq]

/-- The oldest packet stands in a buffer that is not empty. -/
theorem exists_oldest {k : LinkPort} (h : k.replayBuffer ≠ []) : ∃ p ∈ k.replayBuffer, p.seq = k.oldestSeq := by
  unfold LinkPort.oldestSeq
  split
  · next hb => exact absurd hb h
  · next p t hb => exact ⟨p, hb ▸ List.mem_cons_self .., rfl⟩

/-! ### The record's own laws -/

/-- The record's laws, apart from the credits. -/
def LinkPort.lawful (k : LinkPort) : Prop := k.bufferLaw ∧ k.stateLaw

/-- The laws of a record whose link is UP. -/
theorem lawful_iff_of_up {k : LinkPort} (hup : k.linkState = .up) : k.lawful ↔
    k.bufferLaw ∧ k.due.syncRequest = false ∧ k.requestTimer = none ∧ (k.replayBuffer = [] → k.replayTimer = none) ∧
      (k.replayInProgress = true → k.replayPacket.isSome = true) ∧ k.replayCount ≤ Config.maxReplays := by
  simp [LinkPort.lawful, LinkPort.stateLaw, hup, and_assoc]

/-- With no replay in progress, no timer of an UP link running and only the SYNC-REQUEST due, a record whose link is
DOWN is lawful when its buffer is (R131). -/
theorem lawful_of_down {k : LinkPort} (hdown : k.linkState = .down) (hbuf : k.bufferLaw)
    (hdue : k.due.syncAck = false ∧ k.due.nak = false ∧ k.due.ack = false) (hreplay : k.replayTimer = none)
    (hrefresh : k.refreshTimer = none) (hno : k.replayInProgress = false) (hcount : k.replayCount ≤ Config.maxReplays) :
    k.lawful := by
  obtain ⟨h1, h2, h3⟩ := hdue
  refine ⟨hbuf, fun _ => ⟨h1, h2, h3, hreplay, hrefresh, hno⟩, fun hup => ?_, fun _ => hreplay, fun h => ?_, hcount⟩
  · exact LinkState.noConfusion (hdown.symm.trans hup)
  · exact Bool.noConfusion (hno.symm.trans h)

/-- While something but a SYNC-REQUEST is due, the link is UP (R140). -/
theorem up_of_due {k : LinkPort} (h : k.lawful)
    (hdue : k.due.syncAck = true ∨ k.due.nak = true ∨ k.due.ack = true) : k.linkState = .up := by
  obtain ⟨-, hdown, -⟩ := h
  cases hl : k.linkState with
  | up => rfl
  | down =>
    obtain ⟨h1, h2, h3, -⟩ := hdown hl
    rw [h1, h2, h3] at hdue
    simp at hdue

/-- `j` differs from `k`, whose link is UP, only outside the outbound packets and the SYNC-REQUEST. -/
def LinkPort.SameOutbound (k j : LinkPort) : Prop :=
  j = { k with expectedSeq := j.expectedSeq, ackPending := j.ackPending, nakSent := j.nakSent
               refreshTimer := j.refreshTimer, reportedTotals := j.reportedTotals
               due := { j.due with syncRequest := k.due.syncRequest }, ackRefresh := j.ackRefresh
               replayTimeout := j.replayTimeout, counters := j.counters }

/-- Such a change keeps the record lawful. -/
theorem LinkPort.SameOutbound.lawful {k j : LinkPort} (h : k.SameOutbound j) (hup : k.linkState = .up)
    (hk : k.lawful) : j.lawful := by
  unfold LinkPort.SameOutbound at h
  have hup' : j.linkState = .up := by rw [h]; exact hup
  rw [lawful_iff_of_up hup] at hk
  rw [lawful_iff_of_up hup', h]
  exact hk

/-- The record once the packets an ACK(n) covers have left the buffer, but for the replay (R142). -/
def LinkPort.packetsLeft (k : LinkPort) (n : SeqNum) : LinkPort :=
  { k with
    replayBuffer := k.replayBuffer.drop (k.covered n)
    replayCount := 0
    replayTimer := if k.replayBuffer.drop (k.covered n) = [] then none else some k.replayPeriod }

/-- An ACK that covers packets: they leave, and the replay goes on with a packet that remains, or ends (R142, R146). -/
theorem acknowledge_of_covered {k : LinkPort} {n : SeqNum} (h : k.covered n ≠ 0) : k.acknowledge n =
    { k.packetsLeft n with
      replayInProgress := k.replayInProgress && decide ((k.packetsLeft n).replayBuffer ≠ [])
      replayPointer :=
        if k.replayInProgress && decide ((k.packetsLeft n).replayBuffer ≠ []) && (k.packetsLeft n).replayPacket.isNone
        then (k.packetsLeft n).oldestSeq else k.replayPointer } :=
  if_neg h

/-- An ACK in window keeps the record lawful (R142, R146). -/
theorem acknowledge_lawful {k : LinkPort} (hup : k.linkState = .up) (hk : k.lawful) (n : SeqNum) :
    (k.acknowledge n).lawful := by
  by_cases hn : k.covered n = 0
  · rw [LinkPort.acknowledge, if_pos hn]
    exact hk
  rw [lawful_iff_of_up hup] at hk
  obtain ⟨hbuf, hreq, htimer, -, hreplay, -⟩ := hk
  obtain ⟨hlen, a, hnum⟩ := (bufferLaw_iff k).mp hbuf
  obtain ⟨c, hrest⟩ := numbered_drop hnum (k.covered n)
  have buffer : (k.packetsLeft n).bufferLaw := by
    refine (bufferLaw_iff _).mpr ⟨?_, c, hrest⟩
    exact (List.drop_sublist ..).length_le.trans hlen
  rw [acknowledge_of_covered hn, lawful_iff_of_up (by exact hup)]
  refine ⟨buffer, hreq, htimer, fun h => if_pos h, fun h => ?_, Nat.zero_le _⟩
  simp only [Bool.and_eq_true, decide_eq_true_eq] at h
  obtain ⟨hprog, hne⟩ := h
  rw [replayPacket_isSome_iff]
  cases hsome : (k.packetsLeft n).replayPacket with
  | none =>
    simp only [hprog, hne, ne_eq, not_false_iff, decide_true, Option.isNone_none, Bool.and_self, if_true]
    exact exists_oldest hne
  | some p =>
    simp only [Option.isNone_some, Bool.and_false, Bool.false_eq_true, if_false]
    exact (replayPacket_isSome_iff (k.packetsLeft n)).mp (by rw [hsome]; rfl)

/-- A replay that starts while a packet is held begins with the oldest (R145). -/
theorem replayStarted_lawful {k : LinkPort} (hup : k.linkState = .up) (hk : k.lawful) (hbuf : k.replayBuffer ≠ [])
    (hcount : k.replayCount < Config.maxReplays) : k.replayStarted.lawful := by
  obtain ⟨hlaw, hreq, htimer, -⟩ := (lawful_iff_of_up hup).mp hk
  exact (lawful_iff_of_up (by exact hup)).mpr ⟨hlaw, hreq, htimer, fun h => absurd h hbuf,
    fun _ => (replayPacket_isSome_iff _).mpr (exists_oldest hbuf), hcount⟩

/-- After a link failure nothing of an UP link stands, but the buffer (R147). -/
theorem failed_lawful {k : LinkPort} (hk : k.lawful) : k.failed.lawful :=
  lawful_of_down rfl hk.1 ⟨rfl, rfl, rfl⟩ rfl rfl rfl (Nat.zero_le _)

/-- After a SYNC the buffer is empty and only a SYNC-ACK is due (R132). -/
theorem synced_lawful (k : LinkPort) : k.synced.lawful :=
  (lawful_iff_of_up rfl).mpr ⟨⟨Nat.zero_le _, rfl⟩, rfl, rfl, fun _ => rfl, fun h => Bool.noConfusion h, Nat.zero_le _⟩

/-- A packet that enters the buffer below 16 takes the next number, and the replay timer runs (R141, R144). -/
theorem entered_lawful {k : LinkPort} (hup : k.linkState = .up) (hk : k.lawful)
    (hplace : k.replayBuffer.length < Config.replayPlaces) (hno : k.replayInProgress = false) (body : SeqBody)
    (timer : Option Nat) : LinkPort.lawful { k with
      replayBuffer := k.replayBuffer ++ [⟨k.outboundNext, body⟩], outboundNext := k.outboundNext + 1
      replayTimer := timer } := by
  obtain ⟨hbuf, hreq, htimer, -, -, hcount⟩ := (lawful_iff_of_up hup).mp hk
  obtain ⟨-, a, hnum⟩ := (bufferLaw_iff k).mp hbuf
  refine (lawful_iff_of_up (by exact hup)).mpr ⟨(bufferLaw_iff _).mpr ⟨?_, a, numbered_append hnum body⟩, hreq, htimer,
    fun h => ?_, fun h => ?_, hcount⟩
  · rw [List.length_append]
    exact hplace
  · simp at h
  · exact Bool.noConfusion (hno.symm.trans h)

/-- A packet sent again: the replay goes on with the packet behind it, or ends with the newest (R145). -/
theorem resent_lawful {k : LinkPort} {p : SeqPacket} (hup : k.linkState = .up) (hk : k.lawful)
    (hp : k.replayPacket = some p) : LinkPort.lawful { k with
      replayPointer := k.replayPointer + 1, replayInProgress := !k.isNewest p } := by
  obtain ⟨hbuf, hreq, htimer, hempty, -, hcount⟩ := (lawful_iff_of_up hup).mp hk
  obtain ⟨-, a, hnum⟩ := (bufferLaw_iff k).mp hbuf
  refine (lawful_iff_of_up (by exact hup)).mpr ⟨hbuf, hreq, htimer, hempty, fun h => ?_, hcount⟩
  have hseq : p.seq = k.replayPointer := by simpa using List.find?_some hp
  have hlast : k.replayBuffer.getLast? ≠ some p := by simpa [LinkPort.isNewest] using h
  obtain ⟨q, hq, hnext⟩ := numbered_next hnum (List.mem_of_find?_eq_some hp) hlast
  exact (replayPacket_isSome_iff _).mpr ⟨q, hq, by rw [hnext, hseq]⟩

/-! ### The link's law -/

/-- The link's law, its record's laws together. -/
theorem linkLaw_iff (s : State) : s.linkLaw ↔
    s.link.lawful ∧ s.ackLaw ∧ (s.resetHeld = true → s.link.linkState = .down) := by
  simp only [State.linkLaw, LinkPort.lawful, and_assoc]

/-- The link's law speaks of the record, the credit totals and RESET_N alone. -/
theorem linkLaw_congr {s t : State} (hs : s.linkLaw) (hl : t.link = s.link) (hc : t.totals = s.totals)
    (hr : t.resetHeld = s.resetHeld) : t.linkLaw := by
  unfold State.linkLaw State.ackLaw at *
  rwa [hl, hc, hr]

/-- A link that is DOWN owes no acknowledgement. -/
theorem linkLaw_of_down {s : State} (hk : s.link.lawful) (hdown : s.link.linkState = .down) : s.linkLaw :=
  (linkLaw_iff s).mpr ⟨hk, fun hup => LinkState.noConfusion (hdown.symm.trans hup), fun _ => hdown⟩

/-- A link that comes or stays UP outside reset, with an ACK due where one is owed. -/
theorem linkLaw_of_up {s : State} (hk : s.link.lawful) (hs : s.resetHeld = false)
    (hack : (s.link.ackPending = true → s.link.due.ack = true) ∧
      (s.totals ≠ s.link.reportedTotals → s.link.due.ack = true)) : s.linkLaw :=
  (linkLaw_iff s).mpr ⟨hk, fun _ => hack, fun h => Bool.noConfusion (hs.symm.trans h)⟩

end Sys2Proof.Machine
end

section
/-! PROOFS. The attention records' law (R115, R119, R120, R125), record by record. -/

namespace Sys2Proof.Machine

/-- The law of one record, for its endpoint's state and completion list (R115, R119, R125). -/
def AttnRecord.LawfulFor (r : AttnRecord) (x : EpState) (completions : List SlotId) : Prop :=
  (x = .disabled → r = .idle) ∧ (r.state = .idle → r = .idle) ∧
    ∀ i : SlotId, r.fence = some i → r.state = .pending ∧ i ∈ completions

theorem attnLaw_iff (s : State) :
    s.attnLaw ↔ ∀ e : EndpointId, s.attn[e].LawfulFor s.endpoints[e].state s.completions[e] := Iff.rfl

/-- The record in IDLE is lawful for every endpoint. -/
theorem idle_lawfulFor (x : EpState) (q : List SlotId) : AttnRecord.idle.LawfulFor x q :=
  ⟨fun _ => rfl, fun _ => rfl, fun _ h => by cases h⟩

/-- A record of an endpoint that is not DISABLED is lawful outside IDLE, with a fence only in PENDING (R119). -/
theorem lawfulFor_of_running {r : AttnRecord} {x : EpState} {q : List SlotId} (hx : x ≠ .disabled)
    (hr : r.state ≠ .idle)
    (hfence : ∀ i : SlotId, r.fence = some i → r.state = .pending ∧ i ∈ q) : r.LawfulFor x q :=
  ⟨fun h => absurd h hx, fun h => absurd h hr, hfence⟩

/-- A record stays lawful while its endpoint does not become DISABLED and its fence stays in the list. -/
theorem AttnRecord.LawfulFor.mono {r : AttnRecord} {x y : EpState} {p q : List SlotId} (h : r.LawfulFor x p)
    (hx : y = .disabled → x = .disabled) (hq : ∀ i : SlotId, r.fence = some i → i ∈ p → i ∈ q) : r.LawfulFor y q := by
  obtain ⟨hdis, hidle, hfence⟩ := h
  exact ⟨fun hy => hdis (hx hy), hidle, fun i hi => ⟨(hfence i hi).1, hq i hi (hfence i hi).2⟩⟩

/-- An attention just taken: its fence is the newest slot of the completion list (R118). -/
theorem takenRecord_lawfulFor (s : State) {e : EndpointId} {x : EpState} (hx : x ≠ .disabled) :
    (s.takenRecord e).LawfulFor x s.completions[e] :=
  lawfulFor_of_running hx AttnState.noConfusion fun _ hi => ⟨rfl, List.mem_of_getLast? hi⟩

variable {s : State}

/-- Endpoints that change but do not become DISABLED keep the law. -/
theorem attnLaw_endpoints {v : Vector Descriptor 16}
    (hv : ∀ e : EndpointId, v[e].state = .disabled → s.endpoints[e].state = .disabled) (hs : s.attnLaw) :
    ({ s with endpoints := v } : State).attnLaw :=
  fun e => ((attnLaw_iff s).mp hs e).mono (hv e) fun _ _ h => h

/-- A descriptor that changes without becoming DISABLED keeps the law. -/
theorem attnLaw_setDescriptor {e : EndpointId} {d : Descriptor}
    (hd : d.state = .disabled → s.endpoints[e].state = .disabled) (hs : s.attnLaw) : (s.setDescriptor e d).attnLaw := by
  refine attnLaw_endpoints (fun x => ?_) hs
  rw [get_set]
  split
  · next h => exact h ▸ hd
  · exact id

/-- A record that changes lawfully keeps the law. -/
theorem attnLaw_setAttn {e : EndpointId} {r : AttnRecord} (hr : r.LawfulFor s.endpoints[e].state s.completions[e])
    (hs : s.attnLaw) : (s.setAttn e r).attnLaw := by
  intro x
  show (s.attn.set e r)[x].LawfulFor _ _
  rw [get_set]
  split
  · next h => exact h ▸ hr
  · exact hs x

/-- An endpoint that enters DISABLED has its record made IDLE (R125). -/
theorem attnLaw_enterDisabled (e : EndpointId) (hs : s.attnLaw) : (s.enterDisabled e).attnLaw := by
  intro x
  show (s.attn.set e .idle)[x].LawfulFor (s.endpoints.set e _)[x].state s.completions[x]
  rw [get_set, get_set]
  split
  · exact idle_lawfulFor ..
  · exact hs x

/-- A slot that joins a completion list keeps every fence in it. -/
theorem attnLaw_joined (e : EndpointId) (i : SlotId) (hs : s.attnLaw) :
    (s.setCompletion e (s.completions[e] ++ [i])).attnLaw := by
  intro x
  refine ((attnLaw_iff s).mp hs x).mono id fun j _ hj => ?_
  rw [State.setCompletion_completions, get_set]
  split
  · next h =>
    subst h
    exact List.mem_append_left _ hj
  · exact hj

/-- A level judged keeps the law (R118). -/
theorem attnLaw_judgeLevel (e : EndpointId) (hs : s.attnLaw) : (s.judgeLevel e).attnLaw := by
  rcases judgeLevel_cases s e with ⟨hst, -, -, h⟩ | h <;> rw [h]
  · exact attnLaw_setAttn (takenRecord_lawfulFor s hst) hs
  · exact hs

/-- A sample keeps the law: it takes attentions, or counts repeats (R118, R122). -/
theorem sampledRecord_lawfulFor (levels : BitVec 16) {e : EndpointId}
    (h : s.attn[e].LawfulFor s.endpoints[e].state s.completions[e]) :
    (s.sampledRecord levels e).LawfulFor s.endpoints[e].state s.completions[e] := by
  unfold State.sampledRecord
  dsimp only
  split
  · exact h
  next hst =>
  have counted (hr : s.attn[e].state ≠ .idle) :
      ({ s.attn[e] with repeats := repeatsUp s.attn[e].repeats } : AttnRecord).LawfulFor s.endpoints[e].state
        s.completions[e] :=
    lawfulFor_of_running hst hr h.2.2
  split
  · split
    · exact takenRecord_lawfulFor s hst
    · exact h
  · next hr =>
    split
    · exact counted (by rw [hr]; exact AttnState.noConfusion)
    · exact h
  · next hr =>
    split
    · exact counted (by rw [hr]; exact AttnState.noConfusion)
    · exact h

theorem attnLaw_sampled (levels : BitVec 16) (hs : s.attnLaw) : ({ s with
    attn := tabulate fun e => s.sampledRecord levels e, lastSample := some levels } : State).attnLaw := by
  intro e
  show (tabulate fun e => s.sampledRecord levels e)[e].LawfulFor _ _
  rw [tabulate_get]
  exact sampledRecord_lawfulFor levels (hs e)

/-- An acknowledgement keeps the law: IDLE, or an attention taken anew (R123). -/
theorem attnLaw_acknowledgeAct (r : CfgRequest) (hs : s.attnLaw) : (acknowledgeAct r s).2.attnLaw := by
  unfold acknowledgeAct
  split
  · exact hs
  intro e
  show (tabulate fun e => if r.names e then s.acknowledgedRecord e else s.attn[e])[e].LawfulFor _ _
  rw [tabulate_get]
  split
  · unfold State.acknowledgedRecord
    split
    · split
      · next h => exact takenRecord_lawfulFor s h.1
      · exact idle_lawfulFor ..
    · exact hs e
  · exact hs e

end Sys2Proof.Machine
end

section
/-! PROOFS. Laws that the tables of slots, lists and lanes do not touch: kept once for all of them through the
operations and the commands that change those tables. -/

namespace Sys2Proof.Machine

/-- What stands outside the tables of windows, endpoints, slots, lanes and attentions. -/
def State.account (s : State) :
    Bool × List CfgRequest × List CfgReply × List Notice × LinkPort × Credits :=
  (s.resetHeld, s.cfgHanded, s.replies, s.notices, s.link, s.credits)

/-- An endpoint command keeps what it keeps on the endpoint its index names (R168). -/
theorem onEndpoint_keeps {P : State → Prop} {f : EndpointId → State → CfgStatus × State}
    (h : ∀ e u, P u → P (f e u).2) (index : Byte) {s : State} (hs : P s) : P (onEndpoint f index s).2 := by
  rcases onEndpoint_cases f index s with heq | ⟨e, heq⟩ <;> rw [heq]
  · exact hs
  · exact h e s hs

/-- A window command keeps what it keeps on the window its index names (R168). -/
theorem onWindow_keeps {P : State → Prop} {f : WindowId → State → CfgStatus × State}
    (h : ∀ w u, P u → P (f w u).2) (index : Byte) {s : State} (hs : P s) : P (onWindow f index s).2 := by
  rcases onWindow_cases f index s with heq | ⟨w, heq⟩ <;> rw [heq]
  · exact hs
  · exact h w s hs

/-- A law that outlasts every change of the tables lawful for the attention records, and the notices, the grants of
request and data credits and the writes to the Link Port's record that come with such changes. -/
structure Outlasts (P : State → Prop) : Prop where
  tables : ∀ {s t : State}, P s → t.account = s.account → (s.attnLaw → t.attnLaw) → P t
  notice : ∀ {s : State} (n : Notice), P s → P (s.addNotice n)
  grant : ∀ {s : State} (a b : Nat), P s → P (s.grantCredits a b 0)
  counted : ∀ {s : State} (x : BitVec 8) (c : Counters),
    P s → P (s.setLink { s.link with replayTimeout := x, counters := c })

namespace Outlasts

variable {P : State → Prop} (hP : Outlasts P) {s : State}
include hP

/-! ### The end of requests and transactions -/

theorem setDescriptor {e : EndpointId} {d : Descriptor} (hd : d.state = .disabled → s.endpoints[e].state = .disabled)
    (hs : P s) : P (s.setDescriptor e d) :=
  hP.tables hs rfl (attnLaw_setDescriptor hd)

theorem enterDisabled (e : EndpointId) (hs : P s) : P (s.enterDisabled e) :=
  hP.tables hs rfl (attnLaw_enterDisabled e)

theorem setEngine (l : LaneId) (g : Engine) (hs : P s) : P (s.setEngine l g) :=
  hP.tables hs rfl id

theorem endSlot (e : EndpointId) (i : SlotId) (x : MemStatus) (hs : P s) : P (s.endSlot e i x) := by
  unfold State.endSlot
  dsimp only
  split
  · refine hP.grant _ _ (hP.tables (s := ite _ _ _) ?_ rfl id)
    split
    · exact hP.tables hs rfl id
    · exact hP.notice _ (hP.tables hs rfl id)
  · exact hP.tables hs rfl (attnLaw_joined e i)

theorem abortQueue (e : EndpointId) (hs : P s) : P (s.abortQueue e) :=
  abortQueue_keeps (fun _ i => hP.endSlot e i .aborted) s hs

theorem stopEndpoint (e : EndpointId) (hs : P s) : P (s.stopEndpoint e) :=
  hP.enterDisabled e (hP.setDescriptor id (hP.abortQueue e hs))

theorem drainIfEmpty (e : EndpointId) (hs : P s) : P (s.drainIfEmpty e) := by
  rcases drainIfEmpty_cases s e with ⟨-, -, h⟩ | ⟨-, h⟩ <;> rw [h]
  · exact hP.enterDisabled e hs
  · exact hs

theorem report (g : Engine) (hs : P s) : P (s.report g) := by
  unfold State.report
  split
  · exact hs
  next e _ =>
  split
  · unfold State.reportUncut
    have counted := hP.setDescriptor (e := e)
      (d := { s.endpoints[e] with transactionsDone := s.endpoints[e].transactionsDone + 1 }) id hs
    dsimp only
    split
    · exact counted
    · split
      · exact counted
      · exact hP.drainIfEmpty e (hP.endSlot e _ _ counted)
  · exact hP.stopEndpoint e hs
  · unfold State.reportLinkCut
    split
    · exact hP.stopEndpoint e hs
    · exact hP.drainIfEmpty e hs
    all_goals exact hs

theorem finishTransaction (l : LaneId) (hs : P s) : P (s.finishTransaction l) :=
  hP.report _ (hP.setEngine l _ hs)

theorem cutByAbort (l : LaneId) (hs : P s) : P (s.cutByAbort l) := by
  unfold State.cutByAbort
  dsimp only
  split
  · exact hs
  · split
    · exact hP.finishTransaction l (hP.setEngine l _ hs)
    · exact hP.finishTransaction l (hP.setEngine l _ hs)
    · exact hP.setEngine l _ hs
    · exact hP.setEngine l _ hs
    all_goals exact hs

/-! ### Endpoint commands (R27 to R34) -/

theorem judgeLevel (e : EndpointId) (hs : P s) : P (s.judgeLevel e) := by
  refine hP.tables hs ?_ (attnLaw_judgeLevel e)
  rcases judgeLevel_cases s e with ⟨-, -, -, h⟩ | h
  · rw [h]; rfl
  · rw [h]

theorem enableEndpoint (e : EndpointId) (hs : P s) : P (enableEndpoint e s).2 := by
  unfold Machine.enableEndpoint
  dsimp only
  split
  · split_ifs
    · exact hs
    · exact hs
    · exact hP.judgeLevel e (hP.setDescriptor EpState.noConfusion hs)
  all_goals exact hs

theorem disableEndpoint (e : EndpointId) (hs : P s) : P (disableEndpoint e s).2 := by
  unfold Machine.disableEndpoint
  split
  · split
    · exact hP.enterDisabled e hs
    · exact hP.setDescriptor EpState.noConfusion hs
  · exact hs
  · exact hP.stopEndpoint e hs
  all_goals exact hs

theorem abortInside (e : EndpointId) (hs : P s) : P (abortInside e s) :=
  hP.cutByAbort _ (hP.tables (s := s.setEpState e .stopping) (hP.setDescriptor EpState.noConfusion hs) rfl id)

theorem abortEndpoint (e : EndpointId) (hs : P s) : P (abortEndpoint e s).2 := by
  unfold Machine.abortEndpoint
  split
  · split
    · exact hP.abortInside e hs
    · exact hP.stopEndpoint e hs
  · split
    · exact hP.abortInside e hs
    · exact hP.stopEndpoint e hs
  · exact hP.stopEndpoint e hs
  all_goals exact hs

theorem resumeEndpoint (e : EndpointId) (hs : P s) : P (resumeEndpoint e s).2 := by
  unfold Machine.resumeEndpoint
  dsimp only
  split
  · refine hP.drainIfEmpty e (hP.setDescriptor (fun h => ?_) hs)
    dsimp only at h
    split at h <;> cases h
  all_goals exact hs

/-! ### CFG_WRITE and CLEAR_COUNTERS (R164, R169) -/

theorem writeWord (i : Nat) (v : Word) (hs : P s) : P (s.writeWord i v) := by
  unfold State.writeWord
  dsimp only
  split
  · exact hP.counted _ s.link.counters hs
  split
  · exact hP.tables hs rfl id
  split
  · have written {e : EndpointId} {k : Nat} := hP.setDescriptor (e := e) (d := s.endpoints[e].writeWord k v)
      (fun h => (descriptor_writeWord_state _ k v).symm.trans h) hs
    split
    · exact hP.judgeLevel _ written
    · exact written
  · exact hs

theorem writeWords (i : Nat) (vs : List Word) (hs : P s) : P (writeWords s i vs) := by
  induction vs generalizing s i with
  | nil => exact hs
  | cons v vs ih => exact ih (i + 1) (hP.writeWord i v hs)

theorem clearCounters (hs : P s) : P (clearCounters s) := by
  refine hP.tables (hP.counted s.link.replayTimeout .zero hs) rfl (attnLaw_endpoints fun e h => ?_)
  rw [tabulate_get] at h
  exact h

/-! ### The commands of the Management Unit but DEVICE_RESET -/

/-- A command performed, and recorded (R168). -/
theorem commandAct {perform : Byte → State → CfgStatus × State} (h : ∀ index u, P u → P (perform index u).2)
    (r : CfgRequest) (hs : P s) : P (commandAct perform r s).2 := by
  unfold Machine.commandAct
  split
  · exact hs
  · exact hP.tables (h _ _ hs) rfl id

end Outlasts

/-- A command that takes a CFG request and replies to it, whatever it does (R162): all of the Management Unit's but
DEVICE_RESET. -/
def TakesAndReplies : Instr → Prop
  | .cfgRead | .cfgWrite | .attentionAcknowledge | .commitWindow | .clearWindow | .fetchWindow | .enableEndpoint
  | .disableEndpoint | .abortEndpoint | .resumeEndpoint | .clearCounters | .unknownCommand => True
  | _ => False

/-- Such a command takes a request by `p` and acts on it by `act`. -/
def TakesBy (c : Instr) (p : CfgRequest → Bool) (act : CfgRequest → State → CfgReply × State) : Prop :=
  ∀ s, exec c s = unlessHeld s (takeCfg s p act)

/-- What such a command does keeps every law that outlasts the tables' changes. -/
theorem takesBy_of_takesAndReplies {c : Instr} (hc : TakesAndReplies c) : ∃ p act, TakesBy c p act ∧
    ∀ {P : State → Prop}, Outlasts P → ∀ r u, P u → P (act r u).2 := by
  cases c with
  | cfgRead =>
    refine ⟨_, _, fun _ => rfl, fun hP r u hu => ?_⟩
    unfold readAct
    split <;> exact hu
  | cfgWrite =>
    refine ⟨_, _, fun _ => rfl, fun hP r u hu => ?_⟩
    unfold writeAct
    split_ifs
    · exact hu
    · exact hu
    · split
      · exact hu
      · exact hP.writeWords _ _ hu
  | attentionAcknowledge =>
    refine ⟨_, _, fun _ => rfl, fun hP r u hu => hP.tables hu ?_ (attnLaw_acknowledgeAct r)⟩
    unfold acknowledgeAct
    split <;> rfl
  | commitWindow =>
    refine ⟨_, _, fun _ => rfl, fun hP r u hu => hP.commandAct (fun _ _ => onWindow_keeps (fun w v hv => ?_) _) r hu⟩
    rcases commitWindow_cases w v with ⟨-, h⟩ | ⟨kind, e, -, h⟩ <;> rw [h]
    · exact hv
    · split
      · exact hv
      · exact hP.tables hv rfl id
  | clearWindow =>
    exact ⟨_, _, fun _ => rfl, fun hP r u hu =>
      hP.commandAct (fun _ _ => onWindow_keeps (fun w v hv => hP.tables hv rfl id) _) r hu⟩
  | fetchWindow =>
    exact ⟨_, _, fun _ => rfl, fun hP r u hu =>
      hP.commandAct (fun _ _ => onWindow_keeps (fun w v hv => hP.tables hv rfl id) _) r hu⟩
  | enableEndpoint =>
    exact ⟨_, _, fun _ => rfl, fun hP r u hu =>
      hP.commandAct (fun _ _ => onEndpoint_keeps (fun e _ => hP.enableEndpoint e) _) r hu⟩
  | disableEndpoint =>
    exact ⟨_, _, fun _ => rfl, fun hP r u hu =>
      hP.commandAct (fun _ _ => onEndpoint_keeps (fun e _ => hP.disableEndpoint e) _) r hu⟩
  | abortEndpoint =>
    exact ⟨_, _, fun _ => rfl, fun hP r u hu =>
      hP.commandAct (fun _ _ => onEndpoint_keeps (fun e _ => hP.abortEndpoint e) _) r hu⟩
  | resumeEndpoint =>
    exact ⟨_, _, fun _ => rfl, fun hP r u hu =>
      hP.commandAct (fun _ _ => onEndpoint_keeps (fun e _ => hP.resumeEndpoint e) _) r hu⟩
  | clearCounters =>
    exact ⟨_, _, fun _ => rfl, fun hP r u hu => hP.commandAct (fun _ _ hv => hP.clearCounters hv) r hu⟩
  | unknownCommand =>
    exact ⟨_, _, fun _ => rfl, fun hP r u hu => hP.commandAct (fun _ _ hv => hv) r hu⟩
  | _ => exact hc.elim

namespace Outlasts

variable {P : State → Prop} (hP : Outlasts P) {s : State}
include hP

/-! ### The Request Decoder, the lanes and the samples -/

theorem refuse (m : MemRequest) (x : MemStatus) (w : Option WindowId) (i : SlotId) (hs : P s) :
    P (refuse m x w i s) := by
  have non_posted : P (refuseNonPosted m x i s) := hP.grant _ _ (hP.tables hs rfl id)
  unfold Machine.refuse
  split
  · split
    · exact hP.grant _ _ (hP.notice _ (hP.tables hs rfl id))
    · exact non_posted
  · exact non_posted
  · exact non_posted

theorem takeMem (d : Direction) (hs : P s) : Leads (takeMem d s) P := by
  intro t ht
  rcases takeMem_cases ht with rfl | ⟨m, rest, -, -, hreq⟩
  · exact hs
  have taken : P { s with memHanded := rest } := hP.tables hs rfl id
  obtain ⟨i, -, ⟨w, -, hacc⟩ | ⟨x, w, -, rfl⟩⟩ := takeRequest_cases hreq
  · unfold accept at hacc
    dsimp only at hacc
    split at hacc
    · cases hacc
    · exact Host.Outcome.next.inj hacc ▸ hP.tables taken rfl id
  · exact hP.refuse m x w i taken

theorem execReadyTimeout (l : LaneId) (hs : P s) : Leads (execReadyTimeout l s) P := by
  refine leads_unlessHeld hs ?_
  split
  · have released := hP.setEngine l (s.engines[l].released (s.gapBitsOf s.engines[l])) hs
    dsimp only
    split
    · exact leads_next.mpr released
    · split
      · exact leads_next.mpr (hP.setDescriptor EpState.noConfusion released)
      · exact leads_next.mpr (hP.setDescriptor EpState.noConfusion (hP.endSlot _ _ _ released))
  all_goals exact leads_next.mpr hs

theorem wordDone (g : Engine) (j : Nat) (din : Word) (hs : P s) : P (s.wordDone g j din) := by
  rw [wordDone_frame]
  exact hP.tables hs rfl id

theorem execGrant (l : LaneId) (hs : P s) : Leads (execGrant l s) P := by
  refine leads_unlessHeld hs ?_
  split
  · exact leads_next.mpr hs
  split
  · exact leads_next.mpr hs
  split
  · exact leads_next.mpr hs
  split
  · exact leads_next.mpr hs
  · exact leads_next.mpr (hP.tables hs rfl id)

end Outlasts

/-- A command of the Request Decoder, the lanes or the Attention Unit, or the end of a transmission. -/
def WorksOnTables : Instr → Prop
  | .memRead | .memWrite | .transmissionEnd | .grant _ | .readySeen _ | .readyTimeout _ | .phaseEnd _
  | .wordComplete _ _ | .release _ | .gapEnd _ | .attentionSample _ => True
  | _ => False

/-- Such a command keeps every law that outlasts the tables' changes. -/
theorem Outlasts.exec_worksOnTables {P : State → Prop} (hP : Outlasts P) {c : Instr} (hc : WorksOnTables c) {s : State}
    (hs : P s) : Leads (exec c s) P := by
  cases c with
  | memRead => exact leads_unlessHeld hs (hP.takeMem _ hs)
  | memWrite => exact leads_unlessHeld hs (hP.takeMem _ hs)
  | transmissionEnd => exact leads_unlessHeld hs (leads_next.mpr (hP.tables hs rfl id))
  | grant l => exact hP.execGrant l hs
  | readySeen l => exact leads_unlessHeld hs (by split <;> exact leads_next.mpr (hP.tables hs rfl id))
  | readyTimeout l => exact hP.execReadyTimeout l hs
  | phaseEnd l =>
    intro t ht
    rcases execPhaseEnd_cases ht with rfl | ⟨g, -, -, -, rfl⟩
    · exact hs
    · exact hP.setEngine l g hs
  | wordComplete l din =>
    intro t ht
    rcases execWordComplete_cases ht with rfl | ⟨j, g, -, -, -, rfl⟩
    · exact hs
    · exact hP.setEngine l g (hP.wordDone _ j din hs)
  | release l =>
    refine leads_unlessHeld hs ?_
    split
    · exact leads_next.mpr (hP.finishTransaction l hs)
    · exact leads_next.mpr hs
  | gapEnd l => exact leads_unlessHeld hs (by split <;> exact leads_next.mpr (hP.tables hs rfl id))
  | attentionSample levels =>
    exact leads_unlessHeld hs (leads_next.mpr (hP.tables hs rfl (attnLaw_sampled levels)))
  | _ => exact hc.elim

end Sys2Proof.Machine
end

section
/-! PROOFS. Laws through the commands that take a CFG request and reply to it (R162), and through the Link Port's and
the Outbound Arbiter's commands. -/

namespace Sys2Proof.Machine

variable {P : State → Prop} {s : State}

/-! ### Taking a request and replying to it (R162, R166) -/

/-- A reply joins its list before or after a notice is created, with the same result. -/
theorem addNotice_addReply (s : State) (n : Notice) (x : CfgReply) :
    (s.addReply x).addNotice n = (s.addNotice n).addReply x := by
  unfold State.addNotice
  split
  · next h => rw [if_pos (show s.notices.length < Config.noticePlaces from h)]; rfl
  · next h => rw [if_neg (show ¬ s.notices.length < Config.noticePlaces from h)]; rfl

/-- A reply joins its list before or after a grant, with the same result. -/
theorem grantCredits_addReply (s : State) (a b c : Nat) (x : CfgReply) :
    (s.addReply x).grantCredits a b c = (s.grantCredits a b c).addReply x := by
  unfold State.grantCredits
  rw [noteTotals_eq, noteTotals_eq]
  rfl

/-- A law that outlasts the tables' changes does so with a reply still to join its list. -/
theorem Outlasts.addReply (hP : Outlasts P) (x : CfgReply) : Outlasts fun u => P (u.addReply x) where
  tables := by
    intro s t hs ht hattn
    simp only [State.account, Prod.mk.injEq] at ht
    obtain ⟨held, handed, replies, notices, link, credits⟩ := ht
    refine hP.tables hs ?_ hattn
    simp only [State.account, State.addReply, held, handed, replies, notices, link, credits]
  notice := fun {s} n hs => addNotice_addReply s n x ▸ hP.notice n hs
  grant := fun {s} a b hs => grantCredits_addReply s a b 0 x ▸ hP.grant a b hs
  counted := fun {s} y c hs => hP.counted (s := s.addReply x) y c hs

/-- A law that outlasts the tables' changes is kept by a command that replies to a CFG request, when the request's
leaving and the reply's joining together keep it (R162). -/
theorem Outlasts.exec_takesAndReplies (hP : Outlasts P)
    (hreply : ∀ {r : CfgRequest} {rest : List CfgRequest} (x : CfgReply), s.cfgHanded = r :: rest →
      P s → P (({ s with cfgHanded := rest } : State).addReply x))
    {c : Instr} (hc : TakesAndReplies c) (hs : P s) : Leads (exec c s) P := by
  obtain ⟨p, act, hby, hact⟩ := takesBy_of_takesAndReplies hc
  rw [hby]
  refine leads_unlessHeld hs fun t ht => ?_
  rcases takeCfg_cases ht with rfl | ⟨r, rest, hr, -, -, rfl⟩
  · exact hs
  · exact hact (hP.addReply _) r _ (hreply _ hr hs)

/-! ### The Link Port and the Outbound Arbiter -/

/-- A law that outlasts the tables' changes and does not read the Link Port's record beyond the link state: kept as
well by a packet's acceptance, by the sending of each packet, by each cause of a link reset, and true after a device
reset. -/
structure OutlastsLink (P : State → Prop) : Prop extends Outlasts P where
  linked : ∀ {s : State} (b : Bool) (k : LinkPort), k.linkState = s.link.linkState →
    P s → P { s with resetHeld := b, link := k }
  replied : ∀ {s : State} {r : CfgRequest} {rest : List CfgRequest} (x : CfgReply), s.cfgHanded = r :: rest →
    P s → P (({ s with cfgHanded := rest } : State).addReply x)
  handed : ∀ {s : State} (r : Request), s.link.linkState = .up → P s → P (s.creditCheck r)
  failed : ∀ {s : State}, P s → P s.linkFailure
  synced : ∀ {s : State}, P s → P s.takeSync
  sentReply : ∀ {s : State} {r : CfgReply}, s.Offers (.cfgReply r) → P s → P (s.sendCfgReply r)
  sentNotice : ∀ {s : State} {n : Notice}, s.Offers (.notice n) → P s → P (s.sendNotice n)
  sentAttn : ∀ {s : State} {e : EndpointId}, s.Offers (.attn e) → P s → P (s.sendAttn e)
  sentCompletion : ∀ {s : State} {e : EndpointId} {i : SlotId}, s.Offers (.completion e i) →
    P s → P (s.sendCompletion e i)
  reset : ∀ s : State, P s.deviceReset

namespace OutlastsLink

variable (hP : OutlastsLink P)
include hP

theorem setLink {k : LinkPort} (hk : k.linkState = s.link.linkState) (hs : P s) : P (s.setLink k) :=
  hP.linked s.resetHeld k hk hs

theorem noteMalformed (hs : P s) : P s.noteMalformed :=
  hP.notice _ (hP.setLink rfl hs)

theorem judgeSequence (p : HostPacket) (hup : s.link.linkState = .up) (hs : P s) : P (s.judgeSequence p) := by
  unfold State.judgeSequence
  dsimp only
  split
  · unfold State.acceptPacket
    have accepted : P (s.setLink s.link.accept) := hP.setLink rfl hs
    dsimp only
    split
    · exact hP.noteMalformed accepted
    · exact hP.handed _ hup accepted
  split
  · exact hP.setLink rfl hs
  · refine hP.setLink ?_ hs
    unfold LinkPort.noteGap
    split <;> rfl

theorem startReplay (hs : P s) : P s.startReplay := by
  unfold State.startReplay
  split
  · exact hP.failed hs
  · exact hP.setLink rfl hs

/-- An ACK leaves the link state. -/
theorem acknowledged (n : SeqNum) (hs : P s) : P (s.setLink (s.link.acknowledge n)) := by
  refine hP.setLink ?_ hs
  unfold LinkPort.acknowledge
  split <;> rfl

theorem takeNak (n : SeqNum) (hs : P s) : P (s.takeNak n) := by
  unfold State.takeNak
  dsimp only
  split
  · exact hP.acknowledged n hs
  · exact hP.startReplay (hP.acknowledged n hs)

/-- A new packet enters the replay buffer (R105, R141). -/
theorem entered (body : SeqBody) (hs : P s) : P (s.enterReplayBuffer body) :=
  hP.tables (hP.setLink (s := s) (k := (s.enterReplayBuffer body).link) rfl hs) rfl id

theorem sendImmediate (i : SlotId) (hs : P s) : P (s.sendImmediate i) :=
  hP.grant _ _ (hP.tables (hP.entered (s.slotReply i) hs) rfl id)

theorem sendSlotReply {d : Direction} {c : Candidate} {t : State} (hs : P s) (hc : s.Offers c)
    (h : s.sendSlotReply d c = some t) : P t := by
  unfold State.sendSlotReply at h
  split at h
  · simp only [Option.ite_none_right_eq_some, Option.some.injEq] at h
    exact h.2 ▸ hP.sendImmediate _ hs
  · simp only [Option.ite_none_right_eq_some, Option.some.injEq] at h
    exact h.2 ▸ hP.sentCompletion hc hs
  · cases h

/-- A packet with no source in a list changes the Link Port's record, not the link state, and the transmitter. -/
theorem sentFromLink {k : LinkPort} {p : OutPacket} (hk : k.linkState = s.link.linkState) (hs : P s) :
    P ((s.setLink k).transmit p) :=
  hP.tables (hP.setLink hk hs) rfl id

/-- Every command keeps such a law. -/
theorem exec_keeps (c : Instr) (hs : P s) : Leads (exec c s) P := by
  cases c with
  | badPacket f =>
    refine leads_unlessHeld hs ?_
    split
    · refine leads_next.mpr (hP.setLink ?_ hs)
      unfold LinkPort.noteGap
      split_ifs <;> rfl
    · exact leads_next.mpr hs
  | sequencedPacket f =>
    refine leads_unlessHeld hs ?_
    split
    · split
      · next hup => exact leads_next.mpr (hP.judgeSequence _ hup hs)
      · exact leads_next.mpr hs
    · exact leads_next.mpr hs
  | hostAck f =>
    refine leads_unlessHeld hs ?_
    split
    · split_ifs
      · exact leads_next.mpr hs
      · exact leads_next.mpr (hP.noteMalformed hs)
      · exact leads_next.mpr (hP.acknowledged _ hs)
      · exact leads_next.mpr hs
    · exact leads_next.mpr hs
  | hostNak f =>
    refine leads_unlessHeld hs ?_
    split
    · split_ifs
      · exact leads_next.mpr hs
      · exact leads_next.mpr (hP.noteMalformed hs)
      · exact leads_next.mpr (hP.takeNak _ hs)
      · exact leads_next.mpr hs
    · exact leads_next.mpr hs
  | sync f =>
    refine leads_unlessHeld hs ?_
    split
    · split
      · exact leads_next.mpr (hP.synced hs)
      · exact leads_next.mpr (hP.noteMalformed hs)
    · exact leads_next.mpr hs
  | cfgRead | cfgWrite | attentionAcknowledge | commitWindow | clearWindow | fetchWindow | enableEndpoint
  | disableEndpoint | abortEndpoint | resumeEndpoint | clearCounters | unknownCommand =>
    exact hP.exec_takesAndReplies (fun x hr => hP.replied x hr) trivial hs
  | memRead | memWrite | transmissionEnd | grant | readySeen | readyTimeout | phaseEnd | wordComplete | release | gapEnd
  | attentionSample =>
    exact hP.exec_worksOnTables (by exact trivial) hs
  | deviceReset =>
    refine leads_unlessHeld hs ?_
    split
    · exact leads_next.mpr hs
    next r rest hr =>
    split_ifs
    · exact leads_next.mpr (hP.replied _ hr hs)
    · exact leads_fault _
    · exact leads_next.mpr (hP.reset s)
    · exact leads_next.mpr hs
  | ack | nak | syncAck | syncRequest | resend =>
    refine leads_onChoice hs fun c t h => ?_
    cases c <;> simp at h
    exact h ▸ hP.sentFromLink rfl hs
  | cfgReply =>
    refine leads_onChoice_of_offers hs fun c t hc h => ?_
    cases c <;> simp at h
    exact h ▸ hP.sentReply hc hs
  | notice =>
    refine leads_onChoice_of_offers hs fun c t hc h => ?_
    cases c <;> simp at h
    exact h ▸ hP.sentNotice hc hs
  | attn =>
    refine leads_onChoice_of_offers hs fun c t hc h => ?_
    cases c <;> simp at h
    exact h ▸ hP.sentAttn hc hs
  | readData => exact leads_onChoice_of_offers hs fun c t hc h => hP.sendSlotReply hs hc h
  | writeDone => exact leads_onChoice_of_offers hs fun c t hc h => hP.sendSlotReply hs hc h
  | replayTimerExpiry =>
    refine leads_unlessHeld hs ?_
    split
    · exact leads_next.mpr (hP.startReplay hs)
    · exact leads_next.mpr hs
  | refreshTimerExpiry =>
    refine leads_unlessHeld hs ?_
    split
    · exact leads_next.mpr (hP.setLink rfl hs)
    · exact leads_next.mpr hs
  | requestTimerExpiry =>
    refine leads_unlessHeld hs ?_
    split
    · exact leads_next.mpr (hP.setLink rfl hs)
    · exact leads_next.mpr hs
  | resetNAssert => exact leads_next.mpr (hP.linked true _ rfl (hP.reset s))
  | resetNRelease =>
    show Leads (execResetNRelease s) P
    unfold execResetNRelease
    split
    · exact leads_next.mpr (hP.linked false _ rfl hs)
    · exact leads_next.mpr hs

end OutlastsLink

end Sys2Proof.Machine
end

section
/-! PROOFS. The laws of the attention records, of the notice queue and of the management credits through every command
(R111, R115, R120, R125, R157, R166). -/

namespace Sys2Proof.Machine

variable {s : State}

/-! ### The credit check (R153, R154) -/

/-- All that the credit check can do: an overrun, or the packet handed on and its credits consumed. -/
theorem creditCheck_cases (s : State) (r : Request) :
    (∃ kind tag, s.creditCheck r = s.overrun kind tag) ∨
      (∃ m : MemRequest, r = .mem m ∧ 1 ≤ s.credits.request.available ∧
        dataCreditsFor m.length ≤ s.credits.data.available ∧ s.creditCheck r =
          ({ s with memHanded := s.memHanded ++ [m] } : State).consumeCredits 1 (dataCreditsFor m.length) 0) ∨
      ∃ c : CfgRequest, r = .cfg c ∧ 1 ≤ s.credits.management.available ∧ s.creditCheck r =
        ({ s with cfgHanded := s.cfgHanded ++ [c] } : State).consumeCredits 0 0 1 := by
  cases r with
  | mem m =>
    by_cases hr : s.credits.request.available < 1
    · exact .inl ⟨_, _, if_pos hr⟩
    by_cases hd : s.credits.data.available < dataCreditsFor m.length
    · exact .inl ⟨_, _, (if_neg hr).trans (if_pos hd)⟩
    · exact .inr (.inl ⟨m, rfl, not_lt.mp hr, not_lt.mp hd, (if_neg hr).trans (if_neg hd)⟩)
  | cfg c =>
    by_cases hm : s.credits.management.available < 1
    · exact .inl ⟨_, _, if_pos hm⟩
    · exact .inr (.inr ⟨c, rfl, not_lt.mp hm, if_neg hm⟩)

/-- An overrun changes the counter and the notice queue alone (R154). -/
theorem overrun_frame (s : State) (kind : CreditKind) (tag : Option Byte) : s.overrun kind tag = { s with
    link := { s.link with counters := (s.overrun kind tag).link.counters }
    notices := (s.overrun kind tag).notices } := by
  unfold State.overrun
  rw [addNotice_frame]
  rfl

/-! ### The answer to a slot (R62, R105, R106, R120) -/

/-- An attention record once the fences that name slot `i` are cleared (R120). -/
def AttnRecord.unfenced (r : AttnRecord) (i : SlotId) : AttnRecord :=
  if r.state = .pending ∧ r.fence = some i then { r with fence := none } else r

/-- The Link Port's record once a new packet has entered the replay buffer (R141, R144). -/
def LinkPort.entered (k : LinkPort) (body : SeqBody) : LinkPort :=
  { k with
    replayBuffer := k.replayBuffer ++ [⟨k.outboundNext, body⟩]
    outboundNext := k.outboundNext + 1
    replayTimer := if k.replayBuffer = [] then some k.replayPeriod else k.replayTimer }

/-- A new packet changes the record and the transmitter alone (R105). -/
theorem enterReplayBuffer_eq (s : State) (body : SeqBody) : s.enterReplayBuffer body = { s with
    link := s.link.entered body, transmitter := .sending (.sequenced ⟨s.link.outboundNext, body⟩) } := rfl

/-- A packet sent from the head of the reply list, as one change of the state and the grant. -/
theorem sendCfgReply_eq (s : State) (r : CfgReply) : s.sendCfgReply r = ({ s with
    link := s.link.entered (.cfgReply r)
    transmitter := .sending (.sequenced ⟨s.link.outboundNext, .cfgReply r⟩)
    replies := s.replies.tail } : State).grantCredits 0 0 1 := by
  rw [State.sendCfgReply, enterReplayBuffer_eq]

/-- A notice sent, as one change of the state. -/
theorem sendNotice_eq (s : State) (n : Notice) : s.sendNotice n = { s with
    link := s.link.entered (.notice n)
    transmitter := .sending (.sequenced ⟨s.link.outboundNext, .notice n⟩)
    notices := s.notices.tail } := by
  rw [State.sendNotice, enterReplayBuffer_eq]

/-- An ATTN sent, as one change of the state. -/
theorem sendAttn_eq (s : State) (e : EndpointId) : s.sendAttn e = { s with
    link := s.link.entered (.attn e s.attn[e].repeats)
    transmitter := .sending (.sequenced ⟨s.link.outboundNext, .attn e s.attn[e].repeats⟩)
    attn := s.attn.set e { s.attn[e] with state := .sent, fence := none } } := by
  rw [State.sendAttn, enterReplayBuffer_eq, State.setAttn]

/-- The head of the immediate list answered, as one change of the state and the grant. -/
theorem sendImmediate_eq (s : State) (i : SlotId) : s.sendImmediate i = ({ s with
    link := s.link.entered (s.slotReply i)
    transmitter := .sending (.sequenced ⟨s.link.outboundNext, s.slotReply i⟩)
    immediate := s.immediate.tail
    slots := s.slots.set i s.slots[i].freed
    freeBlocks := s.slots[i].blocks.foldr insertBlock s.freeBlocks } : State).grantCredits 1
      s.slots[i].blocks.length 0 := by
  rw [State.sendImmediate, enterReplayBuffer_eq, State.freeSlot, State.setSlot]

/-- The head of a completion list answered, as one change of the state and the grant. -/
theorem sendCompletion_eq (s : State) (e : EndpointId) (i : SlotId) : s.sendCompletion e i = ({ s with
    link := s.link.entered (s.slotReply i)
    transmitter := .sending (.sequenced ⟨s.link.outboundNext, s.slotReply i⟩)
    nextCompletion := e + 1
    completions := s.completions.set e s.completions[e].tail
    slots := s.slots.set i s.slots[i].freed
    freeBlocks := s.slots[i].blocks.foldr insertBlock s.freeBlocks
    attn := tabulate fun x => s.attn[x].unfenced i } : State).grantCredits 1 s.slots[i].blocks.length 0 := by
  rw [State.sendCompletion, enterReplayBuffer_eq, State.setCompletion, State.freeSlot, State.setSlot,
    State.clearFences]
  rfl

/-! ### Attention records -/

/-- A record through a link reset (R125, R126). -/
theorem attn_linkReset_lawfulFor {r : AttnRecord} {x : EpState} {q : List SlotId} (h : r.LawfulFor x q)
    (d : Descriptor) :
    (r.linkReset d).LawfulFor d.state [] := by
  by_cases hd : d.state = .disabled
  · rw [attn_linkReset_of_disabled hd]
    exact idle_lawfulFor ..
  · rw [attn_linkReset_of_not_disabled hd]
    refine ⟨fun h => absurd h hd, fun hidle => ?_, fun _ hi => by cases hi⟩
    have state : r.state = .idle := by
      dsimp only at hidle
      split at hidle
      · cases hidle
      · exact hidle
    rw [h.2.1 state]
    rfl

theorem attnLaw_linkReset (hs : s.attnLaw) : s.linkReset.attnLaw := by
  refine (attnLaw_iff _).mpr fun e => ?_
  rw [linkReset_attn, linkReset_completions]
  exact attn_linkReset_lawfulFor ((attnLaw_iff s).mp hs e) _

/-- A grant leaves the records (R155). -/
theorem attnLaw_grantCredits (a b c : Nat) (hs : s.attnLaw) : (s.grantCredits a b c).attnLaw := by
  rw [grantCredits_frame]
  exact hs

/-- A reply from a completion list takes its slot from every fence as from the list (R120). -/
theorem attnLaw_sendCompletion {e : EndpointId} {i : SlotId} {is : List SlotId} (hi : s.completions[e] = i :: is)
    (hs : s.attnLaw) : (s.sendCompletion e i).attnLaw := by
  rw [sendCompletion_eq]
  refine attnLaw_grantCredits _ _ _ ((attnLaw_iff _).mpr fun x => ?_)
  show (tabulate fun x => s.attn[x].unfenced i)[x].LawfulFor s.endpoints[x].state
    (s.completions.set e s.completions[e].tail)[x]
  obtain ⟨hdis, hidle, hfence⟩ := (attnLaw_iff s).mp hs x
  rw [tabulate_get, get_set]
  unfold AttnRecord.unfenced
  split
  · next hp =>
    refine ⟨fun h => ?_, fun h => ?_, fun _ h => by cases h⟩
    · rw [hdis h] at hp
      exact AttnState.noConfusion hp.1
    · exact AttnState.noConfusion (hp.1.symm.trans h)
  · next hp =>
    refine ⟨hdis, hidle, fun j hj => ⟨(hfence j hj).1, ?_⟩⟩
    have hne : j ≠ i := fun h => hp ⟨(hfence j hj).1, h ▸ hj⟩
    have member := (hfence j hj).2
    split
    · next h =>
      subst h
      rw [hi] at member ⊢
      exact (List.mem_cons.mp member).resolve_left hne
    · exact member

/-- The records' law outlasts every command. -/
theorem attnLaw_outlasts : OutlastsLink State.attnLaw where
  tables hs _ h := h hs
  notice n hs := by
    rw [addNotice_frame]
    exact hs
  grant a b hs := attnLaw_grantCredits a b 0 hs
  counted _ _ hs := hs
  linked _ _ _ hs := hs
  replied _ _ hs := hs
  handed {s} r _ hs := by
    rcases creditCheck_cases s r with ⟨kind, tag, h⟩ | ⟨m, -, -, -, h⟩ | ⟨c, -, -, h⟩
    · rw [h, overrun_frame]
      exact hs
    · rw [h]
      exact hs
    · rw [h]
      exact hs
  failed hs := attnLaw_linkReset hs
  synced {s} hs := by
    unfold State.takeSync
    dsimp only
    split
    · exact attnLaw_linkReset hs
    · exact hs
  sentReply _ hs := by
    rw [sendCfgReply_eq]
    exact attnLaw_grantCredits _ _ _ hs
  sentNotice _ hs := by
    rw [sendNotice_eq]
    exact hs
  sentAttn {s e} hc hs := by
    obtain ⟨-, hpend, -⟩ := hc
    have running : s.endpoints[e].state ≠ .disabled := by
      intro hdis
      rw [(hs e).1 hdis] at hpend
      exact AttnState.noConfusion hpend
    rw [sendAttn_eq]
    exact attnLaw_setAttn (lawfulFor_of_running running AttnState.noConfusion fun _ h => by cases h) hs
  sentCompletion hc hs := by
    obtain ⟨-, is, hi⟩ := hc
    exact attnLaw_sendCompletion hi hs
  reset s e := by
    have idle : s.deviceReset.attn[e] = .idle := by simp [State.deviceReset, State.reset]
    rw [idle]
    exact idle_lawfulFor ..

/-! ### The notice queue -/

/-- A notice created keeps the queue within its 8 places (R111, R113). -/
theorem noticeLaw_addNotice (n : Notice) (hs : s.noticeLaw) : (s.addNotice n).noticeLaw := by
  unfold State.noticeLaw at *
  rw [addNotice_length]
  split <;> omega

/-- The notice law speaks of the notice queue alone. -/
theorem noticeLaw_congr {s t : State} (h : t.notices = s.notices) (hs : s.noticeLaw) : t.noticeLaw := by
  unfold State.noticeLaw at *
  rwa [h]

/-- A grant leaves the notice queue (R155). -/
theorem noticeLaw_grantCredits (a b c : Nat) (hs : s.noticeLaw) : (s.grantCredits a b c).noticeLaw :=
  noticeLaw_congr (by rw [grantCredits_frame]) hs

/-- The notice queue's law outlasts every command. -/
theorem noticeLaw_outlasts : OutlastsLink State.noticeLaw where
  tables hs h _ := by
    simp only [State.account, Prod.mk.injEq] at h
    exact noticeLaw_congr h.2.2.2.1 hs
  notice n hs := noticeLaw_addNotice n hs
  grant a b hs := noticeLaw_grantCredits a b 0 hs
  counted _ _ hs := hs
  linked _ _ _ hs := hs
  replied _ _ hs := hs
  handed {s} r _ hs := by
    rcases creditCheck_cases s r with ⟨kind, tag, h⟩ | ⟨m, -, -, -, h⟩ | ⟨c, -, -, h⟩
    · rw [h]
      exact noticeLaw_addNotice _ (noticeLaw_congr rfl hs)
    · rw [h]
      exact hs
    · rw [h]
      exact hs
  failed hs := hs
  synced {s} hs := by
    unfold State.takeSync
    dsimp only
    split <;> exact hs
  sentReply _ hs := by
    rw [sendCfgReply_eq]
    exact noticeLaw_grantCredits _ _ _ hs
  sentNotice {s n} _ hs := by
    show s.notices.tail.length ≤ _
    rw [List.length_tail]
    exact (Nat.sub_le ..).trans hs
  sentAttn _ hs := by
    rw [sendAttn_eq]
    exact hs
  sentCompletion _ hs := by
    rw [sendCompletion_eq]
    exact noticeLaw_grantCredits _ _ _ hs
  reset _ := Nat.zero_le _

/-! ### Management credits -/

/-- What the management law speaks of. -/
def State.managed (s : State) : LinkState × Nat × List CfgRequest × List CfgReply :=
  (s.link.linkState, s.credits.management.available, s.cfgHanded, s.replies)

theorem managementLaw_congr {s t : State} (h : t.managed = s.managed) (hs : s.managementLaw) : t.managementLaw := by
  simp only [State.managed, Prod.mk.injEq] at h
  obtain ⟨link, available, handed, replies⟩ := h
  unfold State.managementLaw at *
  rwa [link, available, handed, replies]

/-- What a grant makes of what the management law speaks of (R155). -/
theorem grantCredits_managed (s : State) (a b c : Nat) : (s.grantCredits a b c).managed =
    (s.link.linkState, s.credits.management.available + c, s.cfgHanded, s.replies) := by
  have link : (s.grantCredits a b c).link.linkState = s.link.linkState := by rw [grantCredits_frame]
  have handed : (s.grantCredits a b c).cfgHanded = s.cfgHanded := by rw [grantCredits_frame]
  have replies : (s.grantCredits a b c).replies = s.replies := by rw [grantCredits_frame]
  rw [State.managed, grantCredits_credits, link, handed, replies]
  rfl

/-- The management law of a link that is UP is the balance at four (R157). -/
theorem managementLaw_of_up (hup : s.link.linkState = .up)
    (h : s.credits.management.available + s.cfgHanded.length + s.replies.length = Config.replyPlaces) :
    s.managementLaw :=
  ⟨fun _ => h, fun hdown => LinkState.noConfusion (hup.symm.trans hdown)⟩

/-- With nothing handed on and no reply waiting, a link that is DOWN meets the management law (R148). -/
theorem managementLaw_of_down (hdown : s.link.linkState = .down) (hc : s.cfgHanded = []) (hr : s.replies = []) :
    s.managementLaw :=
  ⟨fun hup => LinkState.noConfusion (hdown.symm.trans hup), fun _ => ⟨hc, hr⟩⟩

/-- A CFG request handed on means that the link is UP (R148). -/
theorem up_of_cfgHanded (hs : s.managementLaw) (h : s.cfgHanded ≠ []) : s.link.linkState = .up := by
  cases hl : s.link.linkState with
  | up => rfl
  | down => exact absurd (hs.2 hl).1 h

/-- The management law outlasts every command. -/
theorem managementLaw_outlasts : OutlastsLink State.managementLaw where
  tables hs h _ := by
    simp only [State.account, Prod.mk.injEq] at h
    obtain ⟨-, handed, replies, -, link, credits⟩ := h
    exact managementLaw_congr (by simp only [State.managed, handed, replies, link, credits]) hs
  notice n hs := managementLaw_congr (by rw [addNotice_frame]; rfl) hs
  grant a b hs := managementLaw_congr (grantCredits_managed _ a b 0) hs
  counted _ _ hs := hs
  linked _ _ hk hs := managementLaw_congr (by simp only [State.managed, hk]) hs
  replied {s r rest} x hr hs := by
    have hup := up_of_cfgHanded hs (by simp [hr])
    have balance := hs.1 hup
    rw [hr, List.length_cons] at balance
    refine managementLaw_of_up hup ?_
    show s.credits.management.available + rest.length + (s.replies ++ [x]).length = _
    rw [List.length_append, List.length_singleton]
    omega
  handed {s} r hup hs := by
    rcases creditCheck_cases s r with ⟨kind, tag, h⟩ | ⟨m, -, -, -, h⟩ | ⟨c, -, hm, h⟩
    · rw [h, overrun_frame]
      exact hs
    · rw [h]
      exact hs
    · rw [h]
      have balance := hs.1 hup
      refine managementLaw_of_up hup ?_
      show s.credits.management.available - 1 + (s.cfgHanded ++ [c]).length + s.replies.length = _
      rw [List.length_append, List.length_singleton]
      omega
  failed _ := managementLaw_of_down rfl rfl rfl
  synced {s} hs := by
    refine managementLaw_of_up ?_ ?_ <;> unfold State.takeSync <;> dsimp only
    · rfl
    · split
      · rfl
      · next hdown =>
        have down : s.link.linkState = .down := by
          cases hl : s.link.linkState with
          | up => exact absurd hl hdown
          | down => rfl
        obtain ⟨hc, hr⟩ := hs.2 down
        show 4 + s.cfgHanded.length + s.replies.length = _
        rw [hc, hr]
        rfl
  sentReply {s r} hc hs := by
    obtain ⟨send, rs, hr⟩ := hc
    have balance := hs.1 send.up
    rw [hr, List.length_cons] at balance
    have sent : (s.sendCfgReply r).managed =
        (s.link.linkState, s.credits.management.available + 1, s.cfgHanded, s.replies.tail) :=
      sendCfgReply_eq s r ▸ grantCredits_managed ..
    simp only [State.managed, Prod.mk.injEq, hr, List.tail_cons] at sent
    obtain ⟨link, available, handed, replies⟩ := sent
    refine managementLaw_of_up (link.trans send.up) ?_
    rw [available, handed, replies]
    omega
  sentNotice _ hs := by
    rw [sendNotice_eq]
    exact hs
  sentAttn _ hs := by
    rw [sendAttn_eq]
    exact hs
  sentCompletion _ hs := by
    rw [sendCompletion_eq]
    exact managementLaw_congr (grantCredits_managed _ ..) hs
  reset _ := managementLaw_of_down rfl rfl rfl

end Sys2Proof.Machine
end

section
/-! PROOFS. The Transfer Link's law through every command (R130, R131, R138 to R147). -/

namespace Sys2Proof.Machine

variable {s : State}

/-! ### Grants and notices -/

/-- Noting the totals puts right what a change of the totals left open (R138). -/
theorem noteTotals_linkLaw (hk : s.link.lawful) (hheld : s.resetHeld = true → s.link.linkState = .down)
    (hack : s.link.linkState = .up → s.link.ackPending = true → s.link.due.ack = true) : s.noteTotals.linkLaw := by
  unfold State.noteTotals
  split
  · next h =>
    have lawful : s.link.makeAckDue.lawful := LinkPort.SameOutbound.lawful (k := s.link) rfl h.1 hk
    exact (linkLaw_iff _).mpr ⟨lawful, fun _ => ⟨fun _ => rfl, fun _ => rfl⟩, hheld⟩
  · next h => exact (linkLaw_iff s).mpr ⟨hk, fun hup => ⟨hack hup, fun hne => absurd ⟨hup, hne⟩ h⟩, hheld⟩

theorem grantCredits_linkLaw (a b c : Nat) (hs : s.linkLaw) : (s.grantCredits a b c).linkLaw := by
  obtain ⟨hk, hack, hheld⟩ := (linkLaw_iff s).mp hs
  exact noteTotals_linkLaw hk hheld fun hup => (hack hup).1

/-- The link's law outlasts the tables' changes. -/
theorem linkLaw_outlasts : Outlasts State.linkLaw where
  tables hs h _ := by
    simp only [State.account, Prod.mk.injEq] at h
    obtain ⟨held, -, -, -, link, credits⟩ := h
    exact linkLaw_congr hs link (by simp only [State.totals, credits]) held
  notice n hs := by
    rw [addNotice_frame]
    exact linkLaw_congr hs rfl rfl rfl
  grant a b hs := grantCredits_linkLaw a b 0 hs
  counted _ _ hs := hs

theorem noteMalformed_linkLaw (hs : s.linkLaw) : s.noteMalformed.linkLaw :=
  linkLaw_outlasts.notice _ (linkLaw_outlasts.counted s.link.replayTimeout _ hs)

theorem overrun_linkLaw (kind : CreditKind) (tag : Option Byte) (hs : s.linkLaw) : (s.overrun kind tag).linkLaw :=
  linkLaw_outlasts.notice _ (linkLaw_outlasts.counted s.link.replayTimeout _ hs)

/-- The credit check keeps the law: consuming leaves the totals (R153, R154). -/
theorem creditCheck_linkLaw (r : Request) (hs : s.linkLaw) : (s.creditCheck r).linkLaw := by
  rcases creditCheck_cases s r with ⟨kind, tag, h⟩ | ⟨m, -, -, -, h⟩ | ⟨c, -, -, h⟩ <;> rw [h]
  · exact overrun_linkLaw kind tag hs
  · exact linkLaw_congr hs rfl rfl rfl
  · exact linkLaw_congr hs rfl rfl rfl

/-! ### Changes of the record -/

/-- A change of an UP link's record outside the outbound packets keeps the law when an ACK stays due where one is owed
(R138). -/
theorem setLink_linkLaw {j : LinkPort} (hs : s.linkLaw) (hup : s.link.linkState = .up) (hsame : s.link.SameOutbound j)
    (hack : (j.ackPending = true → j.due.ack = true) ∧ (s.totals ≠ j.reportedTotals → j.due.ack = true)) :
    (s.setLink j).linkLaw := by
  obtain ⟨hk, -, hheld⟩ := (linkLaw_iff s).mp hs
  refine (linkLaw_iff _).mpr ⟨hsame.lawful hup hk, fun _ => hack, fun held => ?_⟩
  exact LinkState.noConfusion ((hheld held).symm.trans hup)

/-- A new record of an UP link keeps the law when it is lawful and owes no more than the record before. -/
theorem setLink_linkLaw_of_lawful {j : LinkPort} (hs : s.linkLaw) (hup : s.link.linkState = .up) (hj : j.lawful)
    (hsame : j.ackPending = s.link.ackPending ∧ j.due = s.link.due ∧ j.reportedTotals = s.link.reportedTotals) :
    (s.setLink j).linkLaw := by
  obtain ⟨-, hack, hheld⟩ := (linkLaw_iff s).mp hs
  obtain ⟨hpend, hdue, hrep⟩ := hsame
  refine (linkLaw_iff _).mpr ⟨hj, fun _ => ?_, fun held => LinkState.noConfusion ((hheld held).symm.trans hup)⟩
  show (j.ackPending = true → j.due.ack = true) ∧ (s.totals ≠ j.reportedTotals → j.due.ack = true)
  rw [hpend, hdue, hrep]
  exact hack hup

/-- A bad packet or one ahead of its turn may make a NAK due (R134, R135). -/
theorem noteGap_linkLaw (hs : s.linkLaw) (hup : s.link.linkState = .up) (c : Counters) :
    (s.setLink ({ s.link with counters := c } : LinkPort).noteGap).linkLaw := by
  obtain ⟨-, hack, -⟩ := (linkLaw_iff s).mp hs
  unfold LinkPort.noteGap
  split
  · exact setLink_linkLaw hs hup rfl (hack hup)
  · exact setLink_linkLaw hs hup rfl (hack hup)

/-- A packet judged by its number keeps the law (R134, R136, R137). -/
theorem judgeSequence_linkLaw (p : HostPacket) (hs : s.linkLaw) (hup : s.link.linkState = .up) :
    (s.judgeSequence p).linkLaw := by
  unfold State.judgeSequence
  dsimp only
  split
  · have accepted : (s.setLink s.link.accept).linkLaw := setLink_linkLaw hs hup rfl ⟨fun _ => rfl, fun _ => rfl⟩
    unfold State.acceptPacket
    dsimp only
    split
    · exact noteMalformed_linkLaw accepted
    · exact creditCheck_linkLaw _ accepted
  split
  · exact setLink_linkLaw hs hup rfl ⟨fun _ => rfl, fun _ => rfl⟩
  · exact noteGap_linkLaw hs hup _

/-- An ACK in window keeps the law (R142). -/
theorem acknowledge_linkLaw (n : SeqNum) (hs : s.linkLaw) (hup : s.link.linkState = .up) :
    (s.setLink (s.link.acknowledge n)).linkLaw := by
  refine setLink_linkLaw_of_lawful hs hup (acknowledge_lawful hup ((linkLaw_iff s).mp hs).1 n) ?_
  unfold LinkPort.acknowledge
  split <;> exact ⟨rfl, rfl, rfl⟩

/-! ### Replays, failures and resets -/

theorem linkFailure_linkLaw (hs : s.linkLaw) : s.linkFailure.linkLaw := by
  have reset : s.linkReset.link.lawful := by
    obtain ⟨hbuf, hdown, hup, hempty, -, hcount⟩ := ((linkLaw_iff s).mp hs).1
    refine ⟨hbuf, fun h => ?_, hup, hempty, fun h => Bool.noConfusion h, hcount⟩
    obtain ⟨h1, h2, h3, h4, h5, -⟩ := hdown h
    exact ⟨h1, h2, h3, h4, h5, rfl⟩
  exact linkLaw_of_down (failed_lawful reset) rfl

theorem startReplay_linkLaw (hs : s.linkLaw) (hup : s.link.linkState = .up) (hbuf : s.link.replayBuffer ≠ []) :
    s.startReplay.linkLaw := by
  rcases startReplay_cases s with ⟨hcount, h⟩ | ⟨hcount, h⟩
  · rw [h]
    exact setLink_linkLaw_of_lawful hs hup (replayStarted_lawful hup ((linkLaw_iff s).mp hs).1 hbuf hcount)
      ⟨rfl, rfl, rfl⟩
  · rw [startReplay_of_max hcount]
    exact linkFailure_linkLaw hs

theorem takeNak_linkLaw (n : SeqNum) (hs : s.linkLaw) (hup : s.link.linkState = .up) : (s.takeNak n).linkLaw := by
  have acknowledged := acknowledge_linkLaw n hs hup
  have still_up : (s.link.acknowledge n).linkState = .up := by
    unfold LinkPort.acknowledge
    split <;> exact hup
  unfold State.takeNak
  dsimp only
  split
  · exact acknowledged
  · next hbuf => exact startReplay_linkLaw acknowledged still_up hbuf

/-- A SYNC reports the totals it grants, and owes a SYNC-ACK alone (R132). -/
theorem takeSync_linkLaw (hheld : s.resetHeld = false) : s.takeSync.linkLaw := by
  have held : s.takeSync.resetHeld = false := by
    unfold State.takeSync
    dsimp only
    split <;> exact hheld
  exact linkLaw_of_up (synced_lawful _) held ⟨fun h => Bool.noConfusion h, fun h => absurd rfl h⟩

theorem deviceReset_linkLaw (s : State) : s.deviceReset.linkLaw :=
  linkLaw_of_down (lawful_of_down rfl ⟨Nat.zero_le _, rfl⟩ ⟨rfl, rfl, rfl⟩ rfl rfl rfl (Nat.zero_le _)) rfl

/-- A SYNC-REQUEST that becomes due while DOWN, and a request timer started or stopped there, keep the law (R131). -/
theorem requested_linkLaw (hs : s.linkLaw) (hdown : s.link.linkState = .down) (held due : Bool) (timer : Option Nat) :
    ({ s with
      resetHeld := held
      link := { s.link with
        due := { s.link.due with syncRequest := due }
        requestTimer := timer } } : State).linkLaw := by
  obtain ⟨⟨hbuf, hwhile, -, -, -, hcount⟩, -⟩ := (linkLaw_iff s).mp hs
  obtain ⟨hsa, hn, ha, hreplay, hrefresh, hno⟩ := hwhile hdown
  exact linkLaw_of_down (lawful_of_down hdown hbuf ⟨hsa, hn, ha⟩ hreplay hrefresh hno hcount) hdown

/-! ### Packets sent -/

/-- The transmitter does not matter to the law. -/
theorem transmit_linkLaw (p : OutPacket) (hs : s.linkLaw) : (s.transmit p).linkLaw :=
  linkLaw_congr hs rfl rfl rfl

/-- The ACK sent reports the totals, and acknowledges (R138). -/
theorem sendAck_linkLaw (hs : s.linkLaw) (hdue : s.link.due.ack = true) : s.sendAck.linkLaw := by
  have hup := up_of_due ((linkLaw_iff s).mp hs).1 (.inr (.inr hdue))
  exact transmit_linkLaw _ (setLink_linkLaw hs hup rfl ⟨fun h => Bool.noConfusion h, fun h => absurd rfl h⟩)

/-- The NAK sent acknowledges; an ACK that a changed total keeps due stays due (R135, R140). -/
theorem sendNak_linkLaw (hs : s.linkLaw) (hdue : s.link.due.nak = true) : s.sendNak.linkLaw := by
  obtain ⟨hk, hack, -⟩ := (linkLaw_iff s).mp hs
  have hup := up_of_due hk (.inr (.inl hdue))
  refine transmit_linkLaw _ (setLink_linkLaw hs hup rfl ⟨fun h => Bool.noConfusion h, fun h => ?_⟩)
  show (s.link.due.ack && (s.link.ackRefresh || decide (s.totals ≠ s.link.reportedTotals))) = true
  rw [(hack hup).2 h, decide_eq_true h, Bool.or_true, Bool.and_self]

theorem sendSyncAck_linkLaw (hs : s.linkLaw) (hdue : s.link.due.syncAck = true) : s.sendSyncAck.linkLaw := by
  obtain ⟨hk, hack, -⟩ := (linkLaw_iff s).mp hs
  have hup := up_of_due hk (.inl hdue)
  exact transmit_linkLaw _ (setLink_linkLaw hs hup rfl (hack hup))

/-- A SYNC-REQUEST is due only while DOWN (R131). -/
theorem sendSyncRequest_linkLaw (hs : s.linkLaw) (hdue : s.link.due.syncRequest = true) :
    s.sendSyncRequest.linkLaw := by
  obtain ⟨-, -, hup, -⟩ := ((linkLaw_iff s).mp hs).1
  have hdown : s.link.linkState = .down := by
    cases hl : s.link.linkState with
    | down => rfl
    | up => exact Bool.noConfusion ((hup hl).1.symm.trans hdue)
  exact transmit_linkLaw _ (requested_linkLaw hs hdown s.resetHeld false s.link.requestTimer)

/-- A packet sent again keeps the law (R145). -/
theorem resendPacket_linkLaw {p : SeqPacket} (hs : s.linkLaw) (hc : s.Offers (.resend p)) :
    (s.resendPacket p).linkLaw := by
  obtain ⟨hprog, hp⟩ := hc
  have hk := ((linkLaw_iff s).mp hs).1
  have hup : s.link.linkState = .up := by
    obtain ⟨-, hdown, -⟩ := hk
    cases hl : s.link.linkState with
    | up => rfl
    | down => exact Bool.noConfusion ((hdown hl).2.2.2.2.2.symm.trans hprog)
  exact transmit_linkLaw _ (setLink_linkLaw_of_lawful hs hup (resent_lawful hup hk hp) ⟨rfl, rfl, rfl⟩)

/-- A sequenced packet sent keeps the law (R105, R141). -/
theorem entered_linkLaw (hs : s.linkLaw) (hm : s.MaySend) (body : SeqBody) :
    (s.setLink (s.link.entered body)).linkLaw :=
  setLink_linkLaw_of_lawful hs hm.up
    (entered_lawful hm.up ((linkLaw_iff s).mp hs).1 hm.place hm.no_replay body _) ⟨rfl, rfl, rfl⟩

theorem sendSlotReply_linkLaw {d : Direction} {c : Candidate} {t : State} (hs : s.linkLaw) (hc : s.Offers c)
    (h : s.sendSlotReply d c = some t) : t.linkLaw := by
  unfold State.sendSlotReply at h
  split at h
  · next i =>
    simp only [Option.ite_none_right_eq_some, Option.some.injEq] at h
    rw [← h.2, sendImmediate_eq]
    exact grantCredits_linkLaw _ _ _ (linkLaw_congr (entered_linkLaw hs hc.1 (s.slotReply i)) rfl rfl rfl)
  · next e i =>
    simp only [Option.ite_none_right_eq_some, Option.some.injEq] at h
    rw [← h.2, sendCompletion_eq]
    exact grantCredits_linkLaw _ _ _ (linkLaw_congr (entered_linkLaw hs hc.1 (s.slotReply i)) rfl rfl rfl)
  · cases h

/-! ### Every command -/

/-- Neither UP nor DOWN is both. -/
theorem up_of_not_down {k : LinkPort} (h : ¬ k.linkState = .down) : k.linkState = .up := by
  cases hl : k.linkState with
  | up => rfl
  | down => exact absurd hl h

/-- A command outside reset keeps the law when what it does there does (R171). -/
theorem leads_unlessHeld_of_high {P : State → Prop} {r : Result} (hs : P s) (hr : s.resetHeld = false → Leads r P) :
    Leads (unlessHeld s r) P := by
  intro t ht
  rcases unlessHeld_cases ht with ⟨-, h⟩ | ⟨hheld, h⟩
  · exact Host.Outcome.next.inj h ▸ hs
  · exact hr hheld t h.symm

/-- Every command keeps the link's law (R130, R131, R138 to R147). -/
theorem exec_linkLaw (c : Instr) (hs : s.linkLaw) : Leads (exec c s) State.linkLaw := by
  have kept : Leads (.next s) State.linkLaw := leads_next.mpr hs
  cases c with
  | badPacket f =>
    refine leads_unlessHeld hs ?_
    split
    · refine leads_next.mpr ?_
      split
      · next hup => exact noteGap_linkLaw hs hup _
      · exact linkLaw_outlasts.counted s.link.replayTimeout _ hs
    · exact kept
  | sequencedPacket f =>
    refine leads_unlessHeld hs ?_
    split
    · split
      · next hup => exact leads_next.mpr (judgeSequence_linkLaw _ hs hup)
      · exact kept
    · exact kept
  | hostAck f =>
    refine leads_unlessHeld hs ?_
    split
    · split_ifs with hdown
      · exact kept
      · exact leads_next.mpr (noteMalformed_linkLaw hs)
      · exact leads_next.mpr (acknowledge_linkLaw _ hs (up_of_not_down hdown))
      · exact kept
    · exact kept
  | hostNak f =>
    refine leads_unlessHeld hs ?_
    split
    · split_ifs with hdown
      · exact kept
      · exact leads_next.mpr (noteMalformed_linkLaw hs)
      · exact leads_next.mpr (takeNak_linkLaw _ hs (up_of_not_down hdown))
      · exact kept
    · exact kept
  | sync f =>
    refine leads_unlessHeld_of_high hs fun hheld => ?_
    split
    · split
      · exact leads_next.mpr (takeSync_linkLaw hheld)
      · exact leads_next.mpr (noteMalformed_linkLaw hs)
    · exact kept
  | cfgRead | cfgWrite | attentionAcknowledge | commitWindow | clearWindow | fetchWindow | enableEndpoint
  | disableEndpoint | abortEndpoint | resumeEndpoint | clearCounters | unknownCommand =>
    exact linkLaw_outlasts.exec_takesAndReplies (fun _ _ h => h) trivial hs
  | memRead | memWrite | transmissionEnd | grant | readySeen | readyTimeout | phaseEnd | wordComplete | release | gapEnd
  | attentionSample =>
    exact linkLaw_outlasts.exec_worksOnTables (by exact trivial) hs
  | deviceReset =>
    refine leads_unlessHeld hs ?_
    split
    · exact kept
    · split_ifs
      · exact leads_next.mpr (linkLaw_congr hs rfl rfl rfl)
      · exact leads_fault _
      · exact leads_next.mpr (deviceReset_linkLaw s)
      · exact kept
  | ack =>
    refine leads_onChoice_of_offers hs fun c t hc h => ?_
    cases c <;> simp at h
    exact h ▸ sendAck_linkLaw hs hc
  | nak =>
    refine leads_onChoice_of_offers hs fun c t hc h => ?_
    cases c <;> simp at h
    exact h ▸ sendNak_linkLaw hs hc
  | syncAck =>
    refine leads_onChoice_of_offers hs fun c t hc h => ?_
    cases c <;> simp at h
    exact h ▸ sendSyncAck_linkLaw hs hc
  | syncRequest =>
    refine leads_onChoice_of_offers hs fun c t hc h => ?_
    cases c <;> simp at h
    exact h ▸ sendSyncRequest_linkLaw hs hc
  | resend =>
    refine leads_onChoice_of_offers hs fun c t hc h => ?_
    cases c <;> simp at h
    exact h ▸ resendPacket_linkLaw hs hc
  | cfgReply =>
    refine leads_onChoice_of_offers hs fun c t hc h => ?_
    cases c <;> simp at h
    rw [← h, sendCfgReply_eq]
    exact grantCredits_linkLaw _ _ _ (linkLaw_congr (entered_linkLaw hs hc.1 _) rfl rfl rfl)
  | notice =>
    refine leads_onChoice_of_offers hs fun c t hc h => ?_
    cases c <;> simp at h
    rw [← h, sendNotice_eq]
    exact linkLaw_congr (entered_linkLaw hs hc.1 _) rfl rfl rfl
  | attn =>
    refine leads_onChoice_of_offers hs fun c t hc h => ?_
    cases c <;> simp at h
    rw [← h, sendAttn_eq]
    exact linkLaw_congr (entered_linkLaw hs hc.1 _) rfl rfl rfl
  | readData => exact leads_onChoice_of_offers hs fun c t hc h => sendSlotReply_linkLaw hs hc h
  | writeDone => exact leads_onChoice_of_offers hs fun c t hc h => sendSlotReply_linkLaw hs hc h
  | replayTimerExpiry =>
    refine leads_unlessHeld hs ?_
    split
    · next h =>
      obtain ⟨-, -, -, hempty, -⟩ := ((linkLaw_iff s).mp hs).1
      have held : s.link.replayBuffer ≠ [] := fun hb => Option.isSome_iff_ne_none.mp h.2 (hempty hb)
      exact leads_next.mpr (startReplay_linkLaw hs h.1 held)
    · exact kept
  | refreshTimerExpiry =>
    refine leads_unlessHeld hs ?_
    split
    · next h => exact leads_next.mpr (setLink_linkLaw hs h.1 rfl ⟨fun _ => rfl, fun _ => rfl⟩)
    · exact kept
  | requestTimerExpiry =>
    refine leads_unlessHeld hs ?_
    split
    · next h => exact leads_next.mpr (requested_linkLaw hs h.1 s.resetHeld true _)
    · exact kept
  | resetNAssert => exact leads_next.mpr (requested_linkLaw (deviceReset_linkLaw s) rfl true true none)
  | resetNRelease =>
    show Leads (execResetNRelease s) _
    unfold execResetNRelease
    split
    · next hheld =>
      obtain ⟨-, -, hdown⟩ := (linkLaw_iff s).mp hs
      exact leads_next.mpr (requested_linkLaw hs (hdown hheld) false true _)
    · exact kept

end Sys2Proof.Machine
end

section
/-! PROOFS. The Slot Table's law (R42, R43, R50, R157) slot by slot: where a slot stands, what it holds, and how many
are free. -/

namespace Sys2Proof.Machine

/-! ### Where a slot stands (R43, R48) -/

/-- A slot's translation names the endpoint. -/
theorem translatesTo_iff (sl : Slot) (e : EndpointId) :
    sl.translatesTo e = true ↔ ∃ t, sl.translation = some t ∧ t.endpoint = e := by
  unfold Slot.translatesTo
  cases sl.translation <;> simp

/-- Slot `i` stands as the collections' law asks of it. -/
structure State.Placed (s : State) (i : SlotId) : Prop where
  queue : ∀ e : EndpointId, i ∈ s.queues[e] →
    (s.slots[i].state = .queued ∨ s.slots[i].state = .active) ∧ s.slots[i].translatesTo e = true
  completion : ∀ e : EndpointId, i ∈ s.completions[e] →
    s.slots[i].state = .complete ∧ s.slots[i].translatesTo e = true
  immediate : i ∈ s.immediate →
    s.slots[i].state = .complete ∧ s.slots[i].translation = none ∧ s.slots[i].blocks = []
  somewhere : s.slots[i].state = .free ∨ i ∈ s.immediate ∨
    ∃ e : EndpointId, i ∈ s.queues[e] ∨ i ∈ s.completions[e]

/-- No list holds a slot twice. -/
structure State.ListsNodup (s : State) : Prop where
  queue : ∀ e : EndpointId, s.queues[e].Nodup
  completion : ∀ e : EndpointId, s.completions[e].Nodup
  immediate : s.immediate.Nodup

/-- The collections' law is that of the lists and that of each slot. -/
theorem collectionLaw_iff (s : State) : s.collectionLaw ↔ s.ListsNodup ∧ ∀ i : SlotId, s.Placed i := by
  constructor
  · rintro ⟨hlists, himm, himms, hsome⟩
    exact ⟨⟨fun e => (hlists e).1, fun e => (hlists e).2.1, himm⟩, fun i =>
      ⟨fun e => (hlists e).2.2.1 i, fun e => (hlists e).2.2.2 i, himms i, hsome i⟩⟩
  · rintro ⟨⟨hq, hc, himm⟩, placed⟩
    exact ⟨fun e => ⟨hq e, hc e, fun i => (placed i).queue e, fun i => (placed i).completion e⟩, himm,
      fun i => (placed i).immediate, fun i => (placed i).somewhere⟩

section

variable {s : State} {i : SlotId} (h : s.Placed i)
include h

/-- A FREE slot stands in no list. -/
theorem State.Placed.not_mem_of_free (hf : s.slots[i].state = .free) :
    (∀ e : EndpointId, i ∉ s.queues[e]) ∧ (∀ e : EndpointId, i ∉ s.completions[e]) ∧ i ∉ s.immediate := by
  refine ⟨fun e hi => ?_, fun e hi => ?_, fun hi => ?_⟩
  · obtain ⟨hst, -⟩ := h.queue e hi
    rw [hf] at hst
    simp at hst
  · obtain ⟨hst, -⟩ := h.completion e hi
    exact SlotState.noConfusion (hf.symm.trans hst)
  · obtain ⟨hst, -⟩ := h.immediate hi
    exact SlotState.noConfusion (hf.symm.trans hst)

/-- A slot with a translation to `e` stands in no other endpoint's lists, nor in the immediate list. -/
theorem State.Placed.not_mem_other {e : EndpointId} (ht : s.slots[i].translatesTo e = true) :
    (∀ x : EndpointId, x ≠ e → i ∉ s.queues[x]) ∧ (∀ x : EndpointId, x ≠ e → i ∉ s.completions[x]) ∧
      i ∉ s.immediate := by
  have unique {x : EndpointId} (hx : s.slots[i].translatesTo x = true) : x = e := by
    obtain ⟨t, htr, rfl⟩ := (translatesTo_iff _ _).mp ht
    obtain ⟨u, hu, rfl⟩ := (translatesTo_iff _ _).mp hx
    rw [Option.some.inj (hu.symm.trans htr)]
  refine ⟨fun x hx hi => hx (unique (h.queue x hi).2), fun x hx hi => hx (unique (h.completion x hi).2), fun hi => ?_⟩
  obtain ⟨t, ht, -⟩ := (translatesTo_iff _ _).mp ht
  obtain ⟨-, hnone, -⟩ := h.immediate hi
  exact Option.some_ne_none t (ht.symm.trans hnone)

/-- A slot of a queue stands in no completion list. -/
theorem State.Placed.not_mem_completion {e : EndpointId} (hi : i ∈ s.queues[e]) (x : EndpointId) :
    i ∉ s.completions[x] := by
  intro hc
  obtain ⟨hq, -⟩ := h.queue e hi
  rw [(h.completion x hc).1] at hq
  simp at hq

/-- A COMPLETE slot stands in no queue. -/
theorem State.Placed.not_mem_queue (hc : s.slots[i].state = .complete) (e : EndpointId) : i ∉ s.queues[e] := by
  intro hi
  obtain ⟨hq, -⟩ := h.queue e hi
  rw [hc] at hq
  simp at hq

end

/-- What the law of the collections reads of a slot. -/
def Slot.hold (sl : Slot) : SlotState × Option Snapshot × List BlockId := (sl.state, sl.translation, sl.blocks)

theorem hold_eq_iff (a b : Slot) :
    a.hold = b.hold ↔ a.state = b.state ∧ a.translation = b.translation ∧ a.blocks = b.blocks := by
  simp only [Slot.hold, Prod.mk.injEq]

/-- Where a slot stands, by what it holds and the lists it is in. -/
theorem placed_congr {s t : State} {i : SlotId} (hslot : t.slots[i].hold = s.slots[i].hold)
    (hq : ∀ e : EndpointId, i ∈ t.queues[e] ↔ i ∈ s.queues[e])
    (hc : ∀ e : EndpointId, i ∈ t.completions[e] ↔ i ∈ s.completions[e]) (himm : i ∈ t.immediate ↔ i ∈ s.immediate)
    (h : s.Placed i) : t.Placed i := by
  obtain ⟨state, translation, blocks⟩ := (hold_eq_iff _ _).mp hslot
  have translates (e : EndpointId) : t.slots[i].translatesTo e = s.slots[i].translatesTo e := by
    simp only [Slot.translatesTo, translation]
  obtain ⟨queue, completion, immediate, somewhere⟩ := h
  constructor
  · simpa only [hq, state, translates] using queue
  · simpa only [hc, state, translates] using completion
  · simpa only [himm, state, translation, blocks] using immediate
  · simpa only [hq, hc, himm, state] using somewhere

/-! ### How many slots are free (R44) -/

/-- Counting by two tests that agree but on one element. -/
theorem countP_add_of_agree {α : Type} {l : List α} (hl : l.Nodup) {i : α} (hi : i ∈ l) {p q : α → Bool}
    (h : ∀ j, j ≠ i → p j = q j) : l.countP p + (q i).toNat = l.countP q + (p i).toNat := by
  induction l with
  | nil => cases hi
  | cons x l ih =>
    obtain ⟨hx, hl⟩ := List.nodup_cons.mp hl
    rw [List.countP_cons, List.countP_cons]
    by_cases hxi : x = i
    · subst hxi
      have rest : l.countP p = l.countP q :=
        List.countP_congr fun j hj => by rw [h j fun hjx => hx (hjx ▸ hj)]
      rw [rest]
      cases p x <;> cases q x <;> simp
    · have member := (List.mem_cons.mp hi).resolve_left (Ne.symm hxi)
      have := ih hl member
      rw [h x hxi]
      omega

/-- The free pool is that of the slots' states (R44). -/
theorem freeSlots_congr {s t : State} (h : ∀ i : SlotId, t.slots[i].state = s.slots[i].state) :
    t.freeSlots = s.freeSlots := by
  unfold State.freeSlots
  simp only [h]

/-- The free pool when only slot `i` changes (R44). -/
theorem freeSlots_of_other {s t : State} {i : SlotId} (h : ∀ j : SlotId, j ≠ i → t.slots[j].state = s.slots[j].state) :
    t.freeSlots + (decide (s.slots[i].state = .free)).toNat =
      s.freeSlots + (decide (t.slots[i].state = .free)).toNat :=
  countP_add_of_agree (p := fun j : SlotId => decide (t.slots[j].state = .free))
    (q := fun j : SlotId => decide (s.slots[j].state = .free)) (List.nodup_finRange 64) (List.mem_finRange i)
    fun j hj => by rw [h j hj]

/-- Every slot is free. -/
theorem freeSlots_of_all {s : State} (h : ∀ i : SlotId, s.slots[i].state = .free) : s.freeSlots = 64 := by
  have all : (List.finRange 64).countP (fun i => decide (s.slots[i].state = .free)) = (List.finRange 64).length :=
    List.countP_eq_length.mpr fun i _ => decide_eq_true (h i)
  rw [State.freeSlots, all, List.length_finRange]

/-- With 64 slots free, each is. -/
theorem free_of_freeSlots {s : State} (h : s.freeSlots = 64) (i : SlotId) : s.slots[i].state = .free := by
  have all : (List.finRange 64).countP (fun i => decide (s.slots[i].state = .free)) = (List.finRange 64).length := by
    rw [List.length_finRange]
    exact h
  exact of_decide_eq_true (List.countP_eq_length.mp all i (List.mem_finRange i))

/-- With a slot free, the lowest-numbered one is found (R44). -/
theorem lowestFreeSlot_found {s : State} (h : 1 ≤ s.freeSlots) : ∃ i : SlotId, s.lowestFreeSlot = some i := by
  obtain ⟨i, hi, hfree⟩ := List.countP_pos_iff.mp h
  exact Option.isSome_iff_exists.mp (List.find?_isSome.mpr ⟨i, hi, hfree⟩)

/-- The slot found is FREE. -/
theorem free_of_lowestFreeSlot {s : State} {i : SlotId} (h : s.lowestFreeSlot = some i) : s.slots[i].state = .free := by
  simpa using List.find?_some h

/-! ### Blocks that return (R50) -/

theorem insertBlock_length {b : BlockId} {l : List BlockId} (h : b ∉ l) : (insertBlock b l).length = l.length + 1 := by
  induction l with
  | nil => rfl
  | cons c l ih =>
    obtain ⟨hc, hl⟩ := not_or.mp (mt List.mem_cons.mpr h)
    simp only [insertBlock, if_neg hc]
    split
    · rfl
    · rw [List.length_cons, ih hl, List.length_cons]

/-- Blocks that are not free return one by one. -/
theorem foldr_insertBlock_length {bl free : List BlockId} (hn : bl.Nodup) (h : ∀ b ∈ bl, b ∉ free) :
    (bl.foldr insertBlock free).length = free.length + bl.length := by
  induction bl with
  | nil => rfl
  | cons b bl ih =>
    obtain ⟨hb, hn⟩ := List.nodup_cons.mp hn
    have fresh : b ∉ bl.foldr insertBlock free := by
      rw [mem_foldr_insertBlock]
      exact not_or.mpr ⟨h b (List.mem_cons_self ..), hb⟩
    rw [List.foldr_cons, insertBlock_length fresh, ih hn fun c hc => h c (List.mem_cons_of_mem _ hc), List.length_cons,
      Nat.add_assoc]

/-! ### The Block Pool's law (R50) -/

/-- The pool's law as named parts. -/
structure State.BlocksHeld (s : State) : Prop where
  rising : s.freeBlocks.Pairwise (· < ·)
  nodup : ∀ i : SlotId, s.slots[i].blocks.Nodup
  of_free : ∀ i : SlotId, s.slots[i].state = .free → s.slots[i].blocks = []
  held : ∀ (i : SlotId), ∀ b ∈ s.slots[i].blocks, b ∉ s.freeBlocks
  holder : ∀ (i j : SlotId) (b : BlockId), b ∈ s.slots[i].blocks → b ∈ s.slots[j].blocks → j = i
  cover : ∀ b : BlockId, b ∈ s.freeBlocks ∨ ∃ i : SlotId, b ∈ s.slots[i].blocks

theorem blockLaw_iff (s : State) : s.blockLaw ↔ s.BlocksHeld := by
  constructor
  · rintro ⟨rising, nodup, of_free, held, cover⟩
    exact ⟨rising, nodup, of_free, fun i b hb => (held i b hb).1, fun i j b hi hj => (held i b hi).2 j hj, cover⟩
  · rintro ⟨rising, nodup, of_free, held, holder, cover⟩
    exact ⟨rising, nodup, of_free, fun i b hb => ⟨held i b hb, fun j hj => holder i j b hb hj⟩, cover⟩

section

variable {s t : State} {i : SlotId}

/-- The pool's law when no block changes hands. -/
theorem blockLaw_congr (hs : s.blockLaw) (hfree : t.freeBlocks = s.freeBlocks)
    (hblocks : ∀ j : SlotId, t.slots[j].blocks = s.slots[j].blocks)
    (hstate : ∀ j : SlotId, t.slots[j].state = .free → s.slots[j].blocks = []) : t.blockLaw := by
  obtain ⟨rising, nodup, -, held, holder, cover⟩ := (blockLaw_iff s).mp hs
  refine (blockLaw_iff t).mpr ⟨hfree ▸ rising, ?_, ?_, ?_, ?_, ?_⟩
  · simpa only [hblocks] using nodup
  · simpa only [hblocks] using hstate
  · simpa only [hblocks, hfree] using held
  · simpa only [hblocks] using holder
  · simpa only [hblocks, hfree] using cover

/-- The pool's law when slot `i` gives its blocks back. -/
theorem blockLaw_of_returned (hfree : t.freeBlocks = s.slots[i].blocks.foldr insertBlock s.freeBlocks)
    (hi : t.slots[i].blocks = []) (hother : ∀ j : SlotId, j ≠ i → t.slots[j].hold = s.slots[j].hold)
    (hs : s.blockLaw) : t.blockLaw := by
  obtain ⟨rising, nodup, of_free, held, holder, cover⟩ := (blockLaw_iff s).mp hs
  have other {j : SlotId} (hj : j ≠ i) := (hold_eq_iff _ _).mp (hother j hj)
  have kept {j : SlotId} {b : BlockId} (hb : b ∈ t.slots[j].blocks) : j ≠ i ∧ b ∈ s.slots[j].blocks := by
    by_cases hj : j = i
    · subst hj
      rw [hi] at hb
      cases hb
    · exact ⟨hj, (other hj).2.2 ▸ hb⟩
  refine (blockLaw_iff t).mpr ⟨?_, fun j => ?_, fun j hj => ?_, fun j b hb => ?_, fun j k b hj hk => ?_, fun b => ?_⟩
  · rw [hfree]
    exact foldr_insertBlock_rising _ rising
  · by_cases hj : j = i
    · rw [hj, hi]
      exact List.nodup_nil
    · rw [(other hj).2.2]
      exact nodup j
  · by_cases hji : j = i
    · rw [hji, hi]
    · rw [(other hji).2.2]
      exact of_free j ((other hji).1 ▸ hj)
  · obtain ⟨hj, hb⟩ := kept hb
    rw [hfree, mem_foldr_insertBlock]
    exact not_or.mpr ⟨held j b hb, fun h => hj (holder i j b h hb)⟩
  · exact holder j k b (kept hj).2 (kept hk).2
  · rw [hfree, mem_foldr_insertBlock]
    rcases cover b with h | ⟨j, hb⟩
    · exact .inl (.inl h)
    · by_cases hj : j = i
      · exact .inl (.inr (hj ▸ hb))
      · exact .inr ⟨j, by rwa [(other hj).2.2]⟩

/-- The pool's law when slot `i`, which held none, takes the first `n` free blocks (R50). -/
theorem blockLaw_of_taken {n : Nat} (hfree : t.freeBlocks = s.freeBlocks.drop n)
    (hi : t.slots[i].blocks = s.freeBlocks.take n) (hnone : s.slots[i].blocks = []) (hst : t.slots[i].state ≠ .free)
    (hother : ∀ j : SlotId, j ≠ i → t.slots[j].hold = s.slots[j].hold) (hs : s.blockLaw) : t.blockLaw := by
  obtain ⟨rising, nodup, of_free, held, holder, cover⟩ := (blockLaw_iff s).mp hs
  have other {j : SlotId} (hj : j ≠ i) := (hold_eq_iff _ _).mp (hother j hj)
  have parts : s.freeBlocks.take n ++ s.freeBlocks.drop n = s.freeBlocks := List.take_append_drop ..
  have apart : ∀ b ∈ s.freeBlocks.take n, b ∉ s.freeBlocks.drop n := by
    have distinct : s.freeBlocks.Nodup := rising.imp ne_of_lt
    rw [← parts] at distinct
    exact fun b hb hd => (List.disjoint_of_nodup_append distinct) hb hd
  have was_free {b : BlockId} (hb : b ∈ s.freeBlocks.take n) : b ∈ s.freeBlocks := List.mem_of_mem_take hb
  have cases_of {j : SlotId} {b : BlockId} (hb : b ∈ t.slots[j].blocks) :
      (j = i ∧ b ∈ s.freeBlocks.take n) ∨ (j ≠ i ∧ b ∈ s.slots[j].blocks) := by
    by_cases hj : j = i
    · subst hj
      exact .inl ⟨rfl, hi ▸ hb⟩
    · exact .inr ⟨hj, (other hj).2.2 ▸ hb⟩
  refine (blockLaw_iff t).mpr ⟨?_, fun j => ?_, fun j hj => ?_, fun j b hb => ?_, fun j k b hj hk => ?_, fun b => ?_⟩
  · rw [hfree]
    exact rising.sublist (List.drop_sublist ..)
  · by_cases hj : j = i
    · rw [hj, hi]
      exact (rising.imp ne_of_lt).sublist (List.take_sublist ..)
    · rw [(other hj).2.2]
      exact nodup j
  · by_cases hji : j = i
    · exact absurd (hji ▸ hj) hst
    · rw [(other hji).2.2]
      exact of_free j ((other hji).1 ▸ hj)
  · rw [hfree]
    rcases cases_of hb with ⟨-, hb⟩ | ⟨-, hb⟩
    · exact apart b hb
    · exact fun hd => held j b hb (List.mem_of_mem_drop hd)
  · rcases cases_of hj with ⟨rfl, hb⟩ | ⟨-, hb⟩ <;> rcases cases_of hk with ⟨rfl, hb'⟩ | ⟨-, hb'⟩
    · rfl
    · exact absurd (was_free hb) (held k b hb')
    · exact absurd (was_free hb') (held j b hb)
    · exact holder j k b hb hb'
  · rw [hfree]
    rcases cover b with h | ⟨j, hb⟩
    · rw [← parts, List.mem_append] at h
      rcases h with h | h
      · exact .inr ⟨i, hi ▸ h⟩
      · exact .inl h
    · refine .inr ⟨j, ?_⟩
      have hj : j ≠ i := by
        rintro rfl
        rw [hnone] at hb
        cases hb
      rwa [(other hj).2.2]

end

end Sys2Proof.Machine
end

section
/-! PROOFS. The Slot Table's law through the change of one slot: taken, refused, ended, answered (R42, R43, R50, R55
to R62, R157). -/

namespace Sys2Proof.Machine

variable {s t : State} {i : SlotId}

/-! ### What the law reads -/

/-- What the Slot Table's law speaks of, besides the lanes. -/
def State.slotSide (s : State) :
    (SlotId → SlotState × Option Snapshot × List BlockId) × Vector (List SlotId) 16 × Vector (List SlotId) 16 ×
      List SlotId × List BlockId × List MemRequest × LinkState × Nat × Nat :=
  (fun i => s.slots[i].hold, s.queues, s.completions, s.immediate, s.freeBlocks, s.memHanded, s.link.linkState,
    s.credits.request.available, s.credits.data.available)

/-- The law but for the slot in hand speaks of the slot side alone. -/
theorem slotLaw_of_handLaw (hs : s.slotLaw) (h : t.slotSide = s.slotSide) (hh : t.handLaw) : t.slotLaw := by
  simp only [State.slotSide, Prod.mk.injEq] at h
  obtain ⟨slots, queues, completions, immediate, free, handed, link, request, data⟩ := h
  obtain ⟨hc, -, hb, hcr⟩ := hs
  obtain ⟨⟨nodup_queue, nodup_completion, nodup_immediate⟩, placed⟩ := (collectionLaw_iff s).mp hc
  have hold (i : SlotId) : t.slots[i].hold = s.slots[i].hold := congrFun slots i
  have state (i : SlotId) : t.slots[i].state = s.slots[i].state := congrArg Prod.fst (hold i)
  have blocks (i : SlotId) : t.slots[i].blocks = s.slots[i].blocks := congrArg (·.2.2) (hold i)
  refine ⟨(collectionLaw_iff t).mpr ⟨⟨queues ▸ nodup_queue, completions ▸ nodup_completion,
    immediate ▸ nodup_immediate⟩, fun i => ?_⟩, hh, ?_, ?_⟩
  · refine placed_congr (hold i) (fun e => ?_) (fun e => ?_) ?_ (placed i)
    · rw [queues]
    · rw [completions]
    · rw [immediate]
  · exact blockLaw_congr hb free blocks fun i hi => ((blockLaw_iff s).mp hb).of_free i (state i ▸ hi)
  · unfold State.creditLaw
    rwa [freeSlots_congr state, free, handed, link, request, data]

/-- The law speaks of the slot side and the lanes alone. -/
theorem slotLaw_congr (hs : s.slotLaw) (h : t.slotSide = s.slotSide) (hl : t.lanes = s.lanes) : t.slotLaw := by
  refine slotLaw_of_handLaw hs h fun l i hi => ?_
  obtain ⟨-, hh, -⟩ := hs
  simp only [State.slotSide, Prod.mk.injEq] at h
  obtain ⟨slots, queues, -⟩ := h
  have state : t.slots[i].state = s.slots[i].state := congrArg Prod.fst (congrFun slots i)
  obtain ⟨endpoints, engines⟩ := (lanes_eq_iff s t).mp hl
  rw [engines] at hi
  rw [state, queues, endpoints, engines]
  exact hh l i hi

/-- A grant changes the slot side by the credits granted alone (R155). -/
theorem grantCredits_slotSide (s : State) (a b c : Nat) : (s.grantCredits a b c).slotSide = ({ s with
    credits := ⟨s.credits.request.grant a, s.credits.data.grant b, s.credits.management.grant c⟩ } :
      State).slotSide := by
  have credits := grantCredits_credits s a b c
  have frame := grantCredits_frame s a b c
  generalize s.grantCredits a b c = t at credits frame ⊢
  rw [frame, credits]
  rfl

/-- The law after a grant, judged on the credits granted. -/
theorem slotLaw_grantCredits (a b c : Nat) (h : ({ s with
    credits := ⟨s.credits.request.grant a, s.credits.data.grant b, s.credits.management.grant c⟩ } : State).slotLaw) :
    (s.grantCredits a b c).slotLaw :=
  slotLaw_congr h (grantCredits_slotSide s a b c) (grantCredits_lanes s a b c)

/-! ### Credits while UP (R148, R157) -/

/-- The credits of an UP link are in balance with the free slots and blocks. -/
theorem creditLaw_of_up (hup : s.link.linkState = .up)
    (hreq : s.credits.request.available + s.memHanded.length = s.freeSlots)
    (hdata : s.credits.data.available + (s.memHanded.map fun m => dataCreditsFor m.length).sum = s.freeBlocks.length) :
    s.creditLaw :=
  ⟨fun _ => ⟨hreq, hdata⟩, fun hdown => LinkState.noConfusion (hup.symm.trans hdown)⟩

/-- A slot that is not free means that the link is UP (R148). -/
theorem up_of_busy (hs : s.creditLaw) (h : s.slots[i].state ≠ .free) : s.link.linkState = .up := by
  refine up_of_not_down fun hdown => ?_
  obtain ⟨-, hfree, -⟩ := hs.2 hdown
  exact h (free_of_freeSlots hfree i)

/-- A MEM request handed on means that the link is UP (R148). -/
theorem up_of_memHanded (hs : s.creditLaw) (h : s.memHanded ≠ []) : s.link.linkState = .up :=
  up_of_not_down fun hdown => h (hs.2 hdown).1

/-! ### The slot in hand (R40, R45, R65) -/

/-- A slot in hand stands at the head of the queue of the endpoint its engine serves. -/
theorem head_of_hand (hs : s.handLaw) {l : LaneId} {e : EndpointId} (hi : s.engines[l].currentSlot = some i)
    (he : s.engines[l].currentEndpoint = some e) :
    s.slots[i].state = .active ∧ s.endpoints[e].lane = l ∧ s.queues[e].head? = some i := by
  obtain ⟨-, hst, x, hx, hlane, hhead⟩ := hs l i hi
  obtain rfl : x = e := Option.some.inj (hx.symm.trans he)
  exact ⟨hst, hlane, hhead⟩

/-- A slot that is not ACTIVE is in no engine's hand. -/
theorem not_hand_of_state (hs : s.handLaw) (h : s.slots[i].state ≠ .active) (l : LaneId) :
    s.engines[l].currentSlot ≠ some i :=
  fun hi => h (hs l i hi).2.1

/-- A slot of the queue of an endpoint that no engine serves is in no engine's hand. -/
theorem not_hand_of_unserved {e : EndpointId} (hs : s.slotLaw) (hu : s.Unserved e) (hi : i ∈ s.queues[e]) (l : LaneId) :
    s.engines[l].currentSlot ≠ some i := by
  intro hhand
  obtain ⟨hc, hh, -⟩ := hs
  obtain ⟨hin, -, x, hx, -, hhead⟩ := hh l i hhand
  have placed := ((collectionLaw_iff s).mp hc).2 i
  have hxe : x = e := by
    by_contra hne
    exact (placed.not_mem_other (placed.queue e hi).2).1 x hne (List.mem_of_mem_head? hhead)
  exact hu l hin (hxe ▸ hx)

/-- The law of the slot in hand, when a slot in no engine's hand changes and every other head stays. -/
theorem handLaw_of_other (hs : s.handLaw) (hl : t.lanes = s.lanes)
    (hno : ∀ l : LaneId, s.engines[l].currentSlot ≠ some i)
    (hother : ∀ j : SlotId, j ≠ i → t.slots[j].state = s.slots[j].state)
    (hhead : ∀ (e : EndpointId) (j : SlotId), j ≠ i → s.queues[e].head? = some j → t.queues[e].head? = some j) :
    t.handLaw := by
  obtain ⟨endpoints, engines⟩ := (lanes_eq_iff s t).mp hl
  intro l j hj
  rw [engines] at hj ⊢
  rw [endpoints]
  have hne : j ≠ i := fun h => hno l (h ▸ hj)
  obtain ⟨hin, hst, e, he, hlane, hq⟩ := hs l j hj
  exact ⟨hin, (hother j hne).trans hst, e, he, hlane, hhead e j hne hq⟩

/-- Taking a slot out of a list leaves another head. -/
theorem head?_erase_of_ne {l : List SlotId} {j : SlotId} (hne : j ≠ i) (h : l.head? = some j) :
    (l.erase i).head? = some j := by
  obtain ⟨q, rfl⟩ := List.head?_eq_some_iff.mp h
  rw [List.erase_cons_tail (by simpa using hne)]
  rfl

/-! ### A slot freed (R42, R61, R62) -/

/-- `t` is `s` with slot `i` out of its list and free, its blocks returned and its credits granted. -/
structure State.Freed (s t : State) (i : SlotId) : Prop where
  state : t.slots[i].state = .free
  blocks : t.slots[i].blocks = []
  other : ∀ j : SlotId, j ≠ i → t.slots[j].hold = s.slots[j].hold
  freeBlocks : t.freeBlocks = s.slots[i].blocks.foldr insertBlock s.freeBlocks
  queue : ∀ e : EndpointId, t.queues[e] = s.queues[e].erase i
  completion : ∀ e : EndpointId, t.completions[e] = s.completions[e].erase i
  immediate : t.immediate = s.immediate.erase i
  lanes : t.lanes = s.lanes
  link : t.link.linkState = s.link.linkState
  handed : t.memHanded = s.memHanded
  request : t.credits.request.available = s.credits.request.available + 1
  data : t.credits.data.available = s.credits.data.available + s.slots[i].blocks.length

/-- A slot freed with its credits granted keeps the law, when no engine has it in hand. -/
theorem State.Freed.slotLaw (h : s.Freed t i) (hs : s.slotLaw) (hbusy : s.slots[i].state ≠ .free)
    (hno : ∀ l : LaneId, s.engines[l].currentSlot ≠ some i) : t.slotLaw := by
  obtain ⟨hc, hh, hb, hcr⟩ := hs
  obtain ⟨⟨nodup_queue, nodup_completion, nodup_immediate⟩, placed⟩ := (collectionLaw_iff s).mp hc
  have hup := up_of_busy hcr hbusy
  obtain ⟨hreq, hdata⟩ := hcr.1 hup
  refine ⟨(collectionLaw_iff t).mpr ⟨⟨fun e => ?_, fun e => ?_, ?_⟩, fun j => ?_⟩, ?_, ?_, ?_⟩
  · exact h.queue e ▸ (nodup_queue e).erase i
  · exact h.completion e ▸ (nodup_completion e).erase i
  · exact h.immediate ▸ nodup_immediate.erase i
  · by_cases hj : j = i
    · subst hj
      refine ⟨fun e hq => ?_, fun e hq => ?_, fun hq => ?_, .inl h.state⟩
      · exact absurd (h.queue e ▸ hq) (nodup_queue e).not_mem_erase
      · exact absurd (h.completion e ▸ hq) (nodup_completion e).not_mem_erase
      · exact absurd (h.immediate ▸ hq) nodup_immediate.not_mem_erase
    · refine placed_congr (h.other j hj) (fun e => ?_) (fun e => ?_) ?_ (placed j)
      · rw [h.queue, List.mem_erase_of_ne hj]
      · rw [h.completion, List.mem_erase_of_ne hj]
      · rw [h.immediate, List.mem_erase_of_ne hj]
  · refine handLaw_of_other hh h.lanes hno (fun j hj => ((hold_eq_iff _ _).mp (h.other j hj)).1) fun e j hj hq => ?_
    rw [h.queue]
    exact head?_erase_of_ne hj hq
  · exact blockLaw_of_returned h.freeBlocks h.blocks h.other hb
  · have free := freeSlots_of_other fun j hj => ((hold_eq_iff _ _).mp (h.other j hj)).1
    rw [decide_eq_false hbusy, decide_eq_true h.state, Bool.toNat_false, Bool.toNat_true] at free
    have returned := foldr_insertBlock_length ((blockLaw_iff s).mp hb |>.nodup i) ((blockLaw_iff s).mp hb |>.held i)
    refine creditLaw_of_up (h.link.trans hup) ?_ ?_
    · rw [h.request, h.handed]
      omega
    · rw [h.data, h.handed, h.freeBlocks, returned]
      omega

/-! ### A request ended (R60, R61) -/

/-- A posted slot that ends is freed with its credits granted, whatever notice it leaves (R61). -/
theorem endSlot_of_posted_eq (hp : s.slots[i].posted = true) (e : EndpointId) (x : MemStatus) :
    ∃ notices, s.endSlot e i x = ({ s with
      slots := s.slots.set i { s.slots[i] with
        state := .free, blocks := [], translation := none, status := some (s.slots[i].status.getD x) }
      queues := s.queues.set e (s.queues[e].erase i)
      freeBlocks := s.slots[i].blocks.foldr insertBlock s.freeBlocks
      notices := notices } : State).grantCredits 1 s.slots[i].blocks.length 0 := by
  unfold State.endSlot
  simp only [hp, if_true]
  split
  · refine ⟨s.notices, ?_⟩
    simp [State.freeSlot, State.setSlot, State.setQueue, Slot.freed]
  · refine ⟨(((s.setSlot i { s.slots[i] with
      status := some (s.slots[i].status.getD x) }).setQueue e (s.queues[e].erase i)).addNotice
        (.postedFail e s.slots[i].tag (s.slots[i].status.getD x) s.slots[i].beatsDone)).notices, ?_⟩
    rw [addNotice_frame]
    simp only [State.freeSlot, State.setSlot, State.setQueue, Slot.freed, get_set_same, Vector.set_set, hp]

/-- The queue that loses a slot, among the queues that do not hold it. -/
theorem queues_erase {v : Vector (List SlotId) 16} {e : EndpointId}
    (hother : ∀ x : EndpointId, x ≠ e → i ∉ v[x]) (x : EndpointId) : (v.set e (v[e].erase i))[x] = v[x].erase i := by
  rw [get_set]
  split
  · next h => rw [h]
  · next h => rw [List.erase_of_not_mem (hother x (Ne.symm h))]

section

variable {e : EndpointId} (hs : s.slotLaw) (hi : i ∈ s.queues[e])
    (hno : ∀ l : LaneId, s.engines[l].currentSlot ≠ some i)
include hs hi

/-- A slot of a queue is not free. -/
theorem busy_of_queue : s.slots[i].state ≠ .free := by
  obtain ⟨hc, -⟩ := hs
  obtain ⟨hst, -⟩ := (((collectionLaw_iff s).mp hc).2 i).queue e hi
  intro h
  rw [h] at hst
  simp at hst

include hno

/-- A posted request that ends keeps the law: its slot is freed (R61). -/
theorem endSlot_slotLaw_of_posted (hp : s.slots[i].posted = true) (x : MemStatus) : (s.endSlot e i x).slotLaw := by
  have placed := ((collectionLaw_iff s).mp hs.1).2 i
  obtain ⟨other_queue, -, not_immediate⟩ := placed.not_mem_other (placed.queue e hi).2
  obtain ⟨notices, h⟩ := endSlot_of_posted_eq hp e x
  rw [h]
  refine slotLaw_grantCredits _ _ _ (State.Freed.slotLaw (s := s) (i := i) ?_ hs (busy_of_queue hs hi) hno)
  refine ⟨?_, ?_, fun j hj => ?_, rfl, queues_erase other_queue, fun y => ?_, ?_, rfl, rfl, rfl, rfl, rfl⟩
  · rw [get_set_same]
  · rw [get_set_same]
  · rw [get_set_other _ _ _ _ hj.symm]
  · exact (List.erase_of_not_mem (placed.not_mem_completion hi y)).symm
  · exact (List.erase_of_not_mem not_immediate).symm

/-- A slot that moves COMPLETE from its queue to the tail of the completion list keeps the law (R60). -/
theorem slotLaw_of_complete {sl : Slot} (hst : sl.state = .complete) (htr : sl.translation = s.slots[i].translation)
    (hbl : sl.blocks = s.slots[i].blocks) : ({ s with
      slots := s.slots.set i sl
      queues := s.queues.set e (s.queues[e].erase i)
      completions := s.completions.set e (s.completions[e] ++ [i]) } : State).slotLaw := by
  have hbusy := busy_of_queue hs hi
  obtain ⟨hc, hh, hb, hcr⟩ := hs
  obtain ⟨⟨nodup_queue, nodup_completion, nodup_immediate⟩, placed⟩ := (collectionLaw_iff s).mp hc
  obtain ⟨-, translates⟩ := (placed i).queue e hi
  obtain ⟨other_queue, -, not_immediate⟩ := (placed i).not_mem_other translates
  have not_completion := (placed i).not_mem_completion hi
  have erased := queues_erase (v := s.queues) other_queue
  have same : (s.slots.set i sl)[i] = sl := get_set_same ..
  have other (j : SlotId) (hj : j ≠ i) : (s.slots.set i sl)[j] = s.slots[j] := get_set_other _ _ _ _ hj.symm
  have joined (y : EndpointId) : (s.completions.set e (s.completions[e] ++ [i]))[y] =
      if e = y then s.completions[y] ++ [i] else s.completions[y] := by
    rw [get_set]
    split
    · next h => rw [h]
    · rfl
  refine ⟨(collectionLaw_iff _).mpr ⟨⟨fun y => erased y ▸ (nodup_queue y).erase i, fun y => ?_, nodup_immediate⟩,
    fun j => ?_⟩, ?_, ?_, ?_⟩
  · show ((s.completions.set e (s.completions[e] ++ [i]))[y]).Nodup
    rw [joined]
    split
    · exact (nodup_completion y).append (List.nodup_singleton i) (List.disjoint_singleton.mpr (not_completion y))
    · exact nodup_completion y
  · by_cases hj : j = i
    · subst hj
      refine ⟨fun y hq => absurd (erased y ▸ hq) (nodup_queue y).not_mem_erase, fun y hq => ?_,
        fun hq => absurd hq not_immediate, .inr (.inr ⟨e, .inr ?_⟩)⟩
      · replace hq : j ∈ (s.completions.set e (s.completions[e] ++ [j]))[y] := hq
        rw [joined] at hq
        split at hq
        · next h =>
          refine same.symm ▸ ⟨hst, ?_⟩
          rw [← h]
          simpa only [Slot.translatesTo, htr] using translates
        · exact absurd hq (not_completion y)
      · show j ∈ (s.completions.set e (s.completions[e] ++ [j]))[e]
        rw [joined, if_pos rfl]
        simp
    · refine placed_congr (congrArg Slot.hold (other j hj)) (fun y => ?_) (fun y => ?_) Iff.rfl (placed j)
      · show j ∈ (s.queues.set e (s.queues[e].erase i))[y] ↔ _
        rw [erased, List.mem_erase_of_ne hj]
      · show j ∈ (s.completions.set e (s.completions[e] ++ [i]))[y] ↔ _
        rw [joined]
        split
        · simp [hj]
        · rfl
  · refine handLaw_of_other hh rfl hno (fun j hj => congrArg Slot.state (other j hj)) fun y j hj hq => ?_
    show (s.queues.set e (s.queues[e].erase i))[y].head? = _
    rw [erased]
    exact head?_erase_of_ne hj hq
  · refine blockLaw_congr hb rfl (fun j => ?_) (fun j hj => ?_)
    · by_cases hj : j = i
      · rw [hj, same, hbl]
      · rw [other j hj]
    · by_cases hji : j = i
      · subst hji
        exact SlotState.noConfusion (hst.symm.trans ((congrArg Slot.state same).symm.trans hj))
      · exact ((blockLaw_iff s).mp hb).of_free j ((congrArg Slot.state (other j hji)).symm.trans hj)
  · have hup := up_of_busy hcr hbusy
    obtain ⟨hreq, hdata⟩ := hcr.1 hup
    have free := freeSlots_of_other (s := s) (i := i) (t := { s with slots := s.slots.set i sl })
      fun j hj => congrArg Slot.state (other j hj)
    rw [decide_eq_false hbusy, same, hst] at free
    exact creditLaw_of_up hup (hreq.trans free.symm) hdata

/-- A request that ends keeps the law, when no engine has its slot in hand (R60, R61). -/
theorem endSlot_slotLaw (x : MemStatus) : (s.endSlot e i x).slotLaw := by
  cases hp : s.slots[i].posted with
  | true => exact endSlot_slotLaw_of_posted hs hi hno hp x
  | false =>
    rw [endSlot_of_complete hp]
    exact slotLaw_of_complete hs hi hno rfl rfl rfl

end

end Sys2Proof.Machine
end

section
/-! PROOFS. The Slot Table's law through slots answered, taken and granted (R42, R44, R50, R55 to R57, R62, R67,
R157). -/

namespace Sys2Proof.Machine

variable {s t : State} {i : SlotId}

/-! ### A slot answered (R62) -/

/-- The list that loses its head, among the lists that do not hold it. -/
theorem lists_tail {v : Vector (List SlotId) 16} {e : EndpointId} {q : List SlotId} (he : v[e] = i :: q)
    (hother : ∀ x : EndpointId, x ≠ e → i ∉ v[x]) (x : EndpointId) : (v.set e v[e].tail)[x] = v[x].erase i := by
  rw [← queues_erase hother x, he, List.tail_cons, List.erase_cons_head]

/-- A reply from the immediate list keeps the law (R62). -/
theorem sendImmediate_slotLaw {is : List SlotId} (hi : s.immediate = i :: is) (hs : s.slotLaw) :
    (s.sendImmediate i).slotLaw := by
  obtain ⟨hc, hh, -⟩ := id hs
  have placed := ((collectionLaw_iff s).mp hc).2 i
  obtain ⟨hst, htr, -⟩ := placed.immediate (hi ▸ List.mem_cons_self ..)
  have not_completion (e : EndpointId) : i ∉ s.completions[e] := fun h => by
    obtain ⟨t, ht, -⟩ := (translatesTo_iff _ _).mp (placed.completion e h).2
    exact Option.some_ne_none t (ht.symm.trans htr)
  rw [sendImmediate_eq]
  refine slotLaw_grantCredits _ _ _ (State.Freed.slotLaw (s := s) (i := i) ?_ hs ?_ (not_hand_of_state hh ?_))
  · refine ⟨?_, ?_, fun j hj => ?_, rfl, fun e => ?_, fun e => ?_, ?_, rfl, rfl, rfl, rfl, rfl⟩
    · rw [get_set_same]; rfl
    · rw [get_set_same]; rfl
    · rw [get_set_other _ _ _ _ hj.symm]
    · exact (List.erase_of_not_mem (placed.not_mem_queue hst e)).symm
    · exact (List.erase_of_not_mem (not_completion e)).symm
    · rw [hi, List.tail_cons, List.erase_cons_head]
  all_goals rw [hst]; exact SlotState.noConfusion

/-- A reply from a completion list keeps the law (R62). -/
theorem sendCompletion_slotLaw {e : EndpointId} {is : List SlotId} (hi : s.completions[e] = i :: is) (hs : s.slotLaw) :
    (s.sendCompletion e i).slotLaw := by
  obtain ⟨hc, hh, -⟩ := id hs
  have placed := ((collectionLaw_iff s).mp hc).2 i
  obtain ⟨hst, htr⟩ := placed.completion e (hi ▸ List.mem_cons_self ..)
  obtain ⟨-, other, not_immediate⟩ := placed.not_mem_other htr
  rw [sendCompletion_eq]
  refine slotLaw_grantCredits _ _ _ (State.Freed.slotLaw (s := s) (i := i) ?_ hs ?_ (not_hand_of_state hh ?_))
  · refine ⟨?_, ?_, fun j hj => ?_, rfl, fun x => ?_, lists_tail hi other, ?_, rfl, rfl, rfl, rfl, rfl⟩
    · rw [get_set_same]; rfl
    · rw [get_set_same]; rfl
    · rw [get_set_other _ _ _ _ hj.symm]
    · exact (List.erase_of_not_mem (placed.not_mem_queue hst x)).symm
    · exact (List.erase_of_not_mem not_immediate).symm
  all_goals rw [hst]; exact SlotState.noConfusion

/-! ### A slot taken (R44, R55 to R57) -/

/-- The list goes on as it was, or with the slot at its tail. -/
def Grown (i : SlotId) (l l' : List SlotId) : Prop := l' = l ∨ l' = l ++ [i]

section

variable {l l' : List SlotId} (h : Grown i l l')
include h

theorem Grown.nodup (hn : l.Nodup) (hi : i ∉ l) : l'.Nodup := by
  obtain rfl | rfl := h
  · exact hn
  · exact hn.append (List.nodup_singleton i) (List.disjoint_singleton.mpr hi)

theorem Grown.mem_iff {j : SlotId} (hj : j ≠ i) : j ∈ l' ↔ j ∈ l := by
  obtain rfl | rfl := h
  · rfl
  · simp [hj]

theorem Grown.head? {j : SlotId} (hj : l.head? = some j) : l'.head? = some j := by
  obtain rfl | rfl := h
  · exact hj
  · rw [List.head?_append, hj]
    rfl

end

/-- A queue that gains a slot, among the others. -/
theorem grown_set (v : Vector (List SlotId) 16) (e : EndpointId) (i : SlotId) (x : EndpointId) :
    Grown i v[x] (v.set e (v[e] ++ [i]))[x] := by
  rw [get_set]
  split
  · next h => exact .inr (by rw [h])
  · exact .inl rfl

/-- `t` is `s` with slot `i` changed and put where it now belongs. -/
structure State.Entered (s t : State) (i : SlotId) : Prop where
  other : ∀ j : SlotId, j ≠ i → t.slots[j].hold = s.slots[j].hold
  queue : ∀ e : EndpointId, Grown i s.queues[e] t.queues[e]
  completion : t.completions = s.completions
  immediate : Grown i s.immediate t.immediate
  lanes : t.lanes = s.lanes
  placed : t.Placed i

/-- The slots' states but for the one that enters. -/
theorem State.Entered.state (h : s.Entered t i) (j : SlotId) (hj : j ≠ i) : t.slots[j].state = s.slots[j].state :=
  congrArg Prod.fst (h.other j hj)

/-- A free slot that enters keeps the law, when the blocks and, with the slots now free, the credits follow. -/
theorem State.Entered.slotLaw (h : s.Entered t i) (hs : s.slotLaw) (hfree : s.slots[i].state = .free) (hb : t.blockLaw)
    (hcr : t.freeSlots + 1 = s.freeSlots + (decide (t.slots[i].state = .free)).toNat → t.creditLaw) : t.slotLaw := by
  have counted := freeSlots_of_other h.state
  rw [decide_eq_true hfree] at counted
  obtain ⟨hc, hh, -⟩ := hs
  obtain ⟨⟨nodup_queue, nodup_completion, nodup_immediate⟩, placed⟩ := (collectionLaw_iff s).mp hc
  obtain ⟨not_queue, -, not_immediate⟩ := (placed i).not_mem_of_free hfree
  refine ⟨(collectionLaw_iff t).mpr ⟨⟨fun e => ?_, fun e => ?_, ?_⟩, fun j => ?_⟩, ?_, hb, hcr counted⟩
  · exact (h.queue e).nodup (nodup_queue e) (not_queue e)
  · exact h.completion ▸ nodup_completion e
  · exact h.immediate.nodup nodup_immediate not_immediate
  · by_cases hj : j = i
    · exact hj ▸ h.placed
    · exact placed_congr (h.other j hj) (fun e => (h.queue e).mem_iff hj) (fun e => by rw [h.completion])
        (h.immediate.mem_iff hj) (placed j)
  · refine handLaw_of_other hh h.lanes (not_hand_of_state hh ?_) h.state fun e j _ hj => (h.queue e).head? hj
    rw [hfree]
    exact SlotState.noConfusion

/-- A snapshot is taken to the window's endpoint (R5). -/
theorem snapshot_endpoint (x : WindowEntry) (w : WindowId) (m : MemRequest) :
    (x.snapshot w m).endpoint = x.endpoint := by
  unfold WindowEntry.snapshot
  cases x.kind <;> rfl

/-- A request accepted has a length of 1 to 64, and its window's endpoint is ACTIVE (R53). -/
theorem of_check_accepted {m : MemRequest} {w : WindowId} (h : s.check m = .accepted w) :
    memLengthOk m.length = true ∧ s.endpoints[s.windows[w].endpoint].state = .active := by
  unfold State.check at h
  split at h
  · cases h
  next hshape =>
  split at h
  · cases h
  next v _ =>
  dsimp only at h
  split at h
  · cases h
  split at h
  · cases h
  split at h
  · cases h
  next hactive =>
  split at h
  · obtain rfl : v = w := Verdict.accepted.inj h
    refine ⟨by simpa using fun hbad => hshape (.inl hbad), ?_⟩
    cases hst : s.endpoints[s.windows[v].endpoint].state with
    | active => rfl
    | disabled | draining | stopping | halted => rw [hst] at hactive; cases hactive
  · cases h

section

variable {m : MemRequest} {rest : List MemRequest} (hs : s.slotLaw) (hm : s.memHanded = m :: rest)
include hs hm

/-- While a MEM packet is handed on, a slot is free (R52, R157). -/
theorem one_le_freeSlots : 1 ≤ s.freeSlots := by
  obtain ⟨-, -, -, hcr⟩ := hs
  obtain ⟨hreq, -⟩ := hcr.1 (up_of_memHanded hcr (by simp [hm]))
  rw [hm, List.length_cons] at hreq
  omega

/-- While a MEM packet is handed on, the blocks it needs are free (R52, R157). -/
theorem dataCreditsFor_le_freeBlocks : dataCreditsFor m.length ≤ s.freeBlocks.length := by
  obtain ⟨-, -, -, hcr⟩ := hs
  obtain ⟨-, hdata⟩ := hcr.1 (up_of_memHanded hcr (by simp [hm]))
  rw [hm, List.map_cons, List.sum_cons] at hdata
  omega

/-- The credits after the packet is taken, by what becomes of its slot, its blocks and its credits. -/
theorem creditLaw_of_taken {t : State} (hlink : t.link.linkState = s.link.linkState) (hmem : t.memHanded = rest)
    (hreq : t.credits.request.available + s.freeSlots = s.credits.request.available + t.freeSlots + 1)
    (hdata : t.credits.data.available + s.freeBlocks.length =
      s.credits.data.available + t.freeBlocks.length + dataCreditsFor m.length) : t.creditLaw := by
  obtain ⟨-, -, -, hcr⟩ := hs
  have hup := up_of_memHanded hcr (by simp [hm])
  obtain ⟨req, data⟩ := hcr.1 hup
  rw [hm, List.length_cons] at req
  rw [hm, List.map_cons, List.sum_cons] at data
  refine creditLaw_of_up (hlink.trans hup) ?_ ?_ <;> rw [hmem] <;> omega

end

variable {m : MemRequest} {rest : List MemRequest}

/-- A slot that takes its blocks and joins its endpoint's queue keeps the law (R50, R55). -/
theorem slotLaw_of_joined {sl : Slot} {e : EndpointId} {n : Nat} (hs : s.slotLaw) (hm : s.memHanded = m :: rest)
    (hfree : s.slots[i].state = .free) (hst : sl.state = .queued) (htr : sl.translatesTo e = true)
    (hbl : sl.blocks = s.freeBlocks.take n) (hn : dataCreditsFor m.length = n) : ({ s with
      memHanded := rest
      slots := s.slots.set i sl
      freeBlocks := s.freeBlocks.drop n
      queues := s.queues.set e (s.queues[e] ++ [i]) } : State).slotLaw := by
  obtain ⟨hc, -, hb, -⟩ := id hs
  obtain ⟨not_queue, not_completion, not_immediate⟩ := (((collectionLaw_iff s).mp hc).2 i).not_mem_of_free hfree
  have none_held := ((blockLaw_iff s).mp hb).of_free i hfree
  have enough := hn ▸ dataCreditsFor_le_freeBlocks hs hm
  have same : (s.slots.set i sl)[i] = sl := get_set_same ..
  have other (j : SlotId) (hj : j ≠ i) : (s.slots.set i sl)[j].hold = s.slots[j].hold := by
    rw [get_set_other _ _ _ _ hj.symm]
  have joined (x : EndpointId) (hx : i ∈ (s.queues.set e (s.queues[e] ++ [i]))[x]) : e = x := by
    rw [get_set] at hx
    split at hx
    · assumption
    · exact absurd hx (not_queue x)
  have taken : sl.state ≠ .free := by rw [hst]; exact SlotState.noConfusion
  refine State.Entered.slotLaw (s := s) (i := i) ⟨other, grown_set s.queues e i, rfl, .inl rfl, rfl, ⟨fun x hx => ?_,
    fun x hx => absurd hx (not_completion x), fun hx => absurd hx not_immediate, .inr (.inr ⟨e, .inl ?_⟩)⟩⟩ hs hfree
    (blockLaw_of_taken rfl ((congrArg Slot.blocks same).trans hbl) none_held (same.symm ▸ taken) other hb)
    fun free => ?_
  · obtain rfl := joined x hx
    exact same.symm ▸ ⟨.inl hst, htr⟩
  · show i ∈ (s.queues.set e (s.queues[e] ++ [i]))[e]
    rw [get_set_same]
    simp
  · rw [same, decide_eq_false taken] at free
    refine creditLaw_of_taken hs hm rfl rfl ?_ ?_
    · simp only [Bool.toNat_false] at free ⊢
      omega
    · simp only [List.length_drop]
      omega

/-- Acceptance keeps the law (R55). -/
theorem accept_slotLaw {w : WindowId} (hs : s.slotLaw) (hm : s.memHanded = m :: rest) (hi : s.lowestFreeSlot = some i)
    (hok : memLengthOk m.length = true) : Leads (accept m w i { s with memHanded := rest }) State.slotLaw := by
  have needed : dataCreditsFor m.length = blocksFor m.length.toNat := if_pos hok
  have enough : blocksFor m.length.toNat ≤ s.freeBlocks.length := needed ▸ dataCreditsFor_le_freeBlocks hs hm
  rw [accept_of_blocks (s := { s with memHanded := rest }) w i enough]
  have translates (sl : Slot) (h : sl.translation = some (s.windows[w].snapshot w m)) :
      sl.translatesTo s.windows[w].endpoint = true :=
    (translatesTo_iff _ _).mpr ⟨_, h, snapshot_endpoint ..⟩
  exact leads_next.mpr (slotLaw_congr
    (slotLaw_of_joined hs hm (free_of_lowestFreeSlot hi) rfl (translates _ rfl) rfl needed) rfl rfl)

/-- A slot refused that joins the immediate list, or stays free, keeps the law once its credits are back (R56, R57). -/
theorem slotLaw_of_refused {sl : Slot} {l : List SlotId} (hs : s.slotLaw) (hm : s.memHanded = m :: rest)
    (hfree : s.slots[i].state = .free) (hbl : sl.blocks = []) (htr : sl.translation = none) (a : Nat)
    (h : (sl.state = .complete ∧ l = s.immediate ++ [i] ∧ a = 0) ∨ (sl.state = .free ∧ l = s.immediate ∧ a = 1)) :
    (({ s with memHanded := rest, slots := s.slots.set i sl, immediate := l } : State).grantCredits a
      (dataCreditsFor m.length) 0).slotLaw := by
  obtain ⟨hc, -, hb, -⟩ := id hs
  obtain ⟨not_queue, not_completion, not_immediate⟩ := (((collectionLaw_iff s).mp hc).2 i).not_mem_of_free hfree
  have of_free := ((blockLaw_iff s).mp hb).of_free
  have same : (s.slots.set i sl)[i] = sl := get_set_same ..
  have other (j : SlotId) (hj : j ≠ i) : (s.slots.set i sl)[j] = s.slots[j] := get_set_other _ _ _ _ hj.symm
  have blocks (j : SlotId) : (s.slots.set i sl)[j].blocks = s.slots[j].blocks := by
    by_cases hj : j = i
    · rw [hj, same, hbl, of_free i hfree]
    · rw [other j hj]
  have still_none (j : SlotId) (hj : (s.slots.set i sl)[j].state = .free) : s.slots[j].blocks = [] := by
    by_cases hji : j = i
    · rw [hji, of_free i hfree]
    · exact of_free j (other j hji ▸ hj)
  have grown : Grown i s.immediate l := by
    obtain ⟨-, rfl, -⟩ | ⟨-, rfl, -⟩ := h
    · exact .inr rfl
    · exact .inl rfl
  have counted : (decide (sl.state = .free)).toNat = a := by
    obtain ⟨hst, -, rfl⟩ | ⟨hst, -, rfl⟩ := h <;> rw [hst] <;> rfl
  refine slotLaw_grantCredits _ _ _ (State.Entered.slotLaw (s := s) (i := i) ⟨fun j hj => congrArg _ (other j hj),
    fun _ => .inl rfl, rfl, grown, rfl, ⟨fun x hx => absurd hx (not_queue x), fun x hx => absurd hx (not_completion x),
      fun hx => ?_, ?_⟩⟩ hs hfree (blockLaw_congr hb rfl blocks still_none) fun free => ?_)
  · obtain ⟨hst, -⟩ | ⟨-, rfl, -⟩ := h
    · exact same.symm ▸ ⟨hst, htr, hbl⟩
    · exact absurd hx not_immediate
  · obtain ⟨-, rfl, -⟩ | ⟨hst, -⟩ := h
    · exact .inr (.inl (by simp))
    · exact .inl (same.symm ▸ hst)
  · rw [same] at free
    refine creditLaw_of_taken hs hm rfl rfl ?_ ?_
    · rw [counted] at free
      simp only [CreditCount.grant] at free ⊢
      omega
    · simp only [CreditCount.grant]
      omega

/-- A refusal keeps the law (R56, R57). -/
theorem refuse_slotLaw {x : MemStatus} {w : Option WindowId} (hs : s.slotLaw) (hm : s.memHanded = m :: rest)
    (hi : s.lowestFreeSlot = some i) : (refuse m x w i { s with memHanded := rest }).slotLaw := by
  have hfree := free_of_lowestFreeSlot hi
  have non_posted : (refuseNonPosted m x i { s with memHanded := rest }).slotLaw :=
    slotLaw_of_refused hs hm hfree rfl rfl 0 (.inl ⟨rfl, rfl, rfl⟩)
  have posted (e : EndpointId) : (refusePosted m x e i { s with memHanded := rest }).slotLaw := by
    have refused := slotLaw_of_refused (sl := refusedSlot m x true .free) hs hm hfree rfl rfl 1 (.inr ⟨rfl, rfl, rfl⟩)
    refine slotLaw_congr refused ?_ (by rw [refusePosted_lanes, grantCredits_lanes]; rfl)
    rw [refusePosted, grantCredits_slotSide, grantCredits_slotSide, addNotice_frame]
    rfl
  unfold refuse
  split
  · split
    · exact posted _
    · exact non_posted
  · exact non_posted
  · exact non_posted

end Sys2Proof.Machine
end

section
/-! PROOFS. The Slot Table's law and the law of the queues together (R26, R43, R157), through what changes engines and
endpoints. -/

namespace Sys2Proof.Machine

variable {s t : State} {i : SlotId} {e : EndpointId} {l : LaneId}

/-! ### A slot granted (R40, R67) -/

/-- The head of a queue marked ACTIVE and put in its lane engine's hand keeps the law (R67). -/
theorem slotLaw_of_granted {g : Engine} (hs : s.slotLaw) (hq : s.queues[e].head? = some i)
    (hlane : s.endpoints[e].lane = l) (hin : g.inTransaction = true) (hslot : g.currentSlot = some i)
    (hcur : g.currentEndpoint = some e) :
    ((s.setSlot i { s.slots[i] with state := .active }).setEngine l g).slotLaw := by
  obtain ⟨hc, hh, hb, hcr⟩ := id hs
  obtain ⟨nodup, placed⟩ := (collectionLaw_iff s).mp hc
  have hi : i ∈ s.queues[e] := List.mem_of_mem_head? hq
  obtain ⟨-, htr⟩ := (placed i).queue e hi
  obtain ⟨other_queue, -, not_immediate⟩ := (placed i).not_mem_other htr
  have busy := busy_of_queue hs hi
  have same : (s.slots.set i { s.slots[i] with state := .active })[i] = { s.slots[i] with state := .active } :=
    get_set_same ..
  have other (j : SlotId) (hj : j ≠ i) : (s.slots.set i { s.slots[i] with state := .active })[j] = s.slots[j] :=
    get_set_other _ _ _ _ hj.symm
  have blocks (j : SlotId) : (s.slots.set i { s.slots[i] with state := .active })[j].blocks = s.slots[j].blocks := by
    by_cases hj : j = i
    · rw [hj, same]
    · rw [other j hj]
  refine ⟨(collectionLaw_iff _).mpr ⟨⟨nodup.queue, nodup.completion, nodup.immediate⟩, fun j => ?_⟩, fun k j hj => ?_,
    blockLaw_congr hb rfl blocks fun j hj => ?_, ?_⟩
  · by_cases hj : j = i
    · subst hj
      refine ⟨fun x hx => ?_, fun x hx => absurd hx ((placed j).not_mem_completion hi x),
        fun hx => absurd hx not_immediate, .inr (.inr ⟨e, .inl hi⟩)⟩
      exact same.symm ▸ ⟨.inr rfl, ((placed j).queue x hx).2⟩
    · exact placed_congr (congrArg _ (other j hj)) (fun _ => Iff.rfl) (fun _ => Iff.rfl) Iff.rfl (placed j)
  · rw [State.setEngine_engines, get_set] at hj ⊢
    by_cases hk : l = k
    · rw [if_pos hk] at hj ⊢
      obtain rfl : i = j := Option.some.inj (hslot.symm.trans hj)
      exact ⟨hin, congrArg Slot.state same, e, hcur, hlane.trans hk, hq⟩
    · rw [if_neg hk] at hj ⊢
      obtain ⟨hin, hst, hand⟩ := hh k j hj
      refine ⟨hin, ?_, hand⟩
      by_cases hji : j = i
      · exact hji ▸ congrArg Slot.state same
      · exact (congrArg Slot.state (other j hji)).trans hst
  · by_cases hji : j = i
    · subst hji
      exact SlotState.noConfusion ((congrArg Slot.state same).symm.trans hj)
    · exact ((blockLaw_iff s).mp hb).of_free j ((congrArg Slot.state (other j hji)).symm.trans hj)
  · have free := freeSlots_of_other (s := s) (i := i) (t := s.setSlot i { s.slots[i] with state := .active })
      fun j hj => congrArg Slot.state (other j hj)
    rw [decide_eq_false busy, State.setSlot_slots, same] at free
    have hup := up_of_busy hcr busy
    obtain ⟨hreq, hdata⟩ := hcr.1 hup
    exact creditLaw_of_up hup (hreq.trans free.symm) hdata

/-! ### The two laws together -/

/-- The Slot Table's law, and that a DISABLED endpoint has an empty queue (R26). -/
structure State.SlotsLawful (s : State) : Prop where
  slots : s.slotLaw
  queues : s.queueLaw

/-- They speak of the slot side and the lanes alone. -/
theorem State.SlotsLawful.congr (hs : s.SlotsLawful) (h : t.slotSide = s.slotSide) (hl : t.lanes = s.lanes) :
    t.SlotsLawful := by
  refine ⟨slotLaw_congr hs.slots h hl, fun e he => ?_⟩
  obtain ⟨endpoints, -⟩ := (lanes_eq_iff s t).mp hl
  simp only [State.slotSide, Prod.mk.injEq] at h
  obtain ⟨-, queues, -⟩ := h
  rw [queues]
  exact hs.queues e (endpoints ▸ he)

/-! ### One engine, one descriptor -/

/-- Engine `h` in the place of `g` has no slot in hand, or the same in the same transaction. -/
def Engine.KeepsHand (g h : Engine) : Prop :=
  ∀ i : SlotId, h.currentSlot = some i →
    g.currentSlot = some i ∧ h.inTransaction = true ∧ h.currentEndpoint = g.currentEndpoint

theorem keepsHand_of_none {g h : Engine} (hh : h.currentSlot = none) : g.KeepsHand h := fun i hi => by
  rw [hh] at hi
  cases hi

theorem keepsHand_of_same {g h : Engine} (hslot : h.currentSlot = g.currentSlot) (hin : h.inTransaction = true)
    (hcur : h.currentEndpoint = g.currentEndpoint) : g.KeepsHand h :=
  fun _ hi => ⟨hslot ▸ hi, hin, hcur⟩

/-- A change of one engine keeps the laws when its hand does. -/
theorem State.SlotsLawful.setEngine {g : Engine} (hs : s.SlotsLawful) (hg : s.engines[l].KeepsHand g) :
    (s.setEngine l g).SlotsLawful := by
  refine ⟨slotLaw_of_handLaw hs.slots rfl fun k i hi => ?_, hs.queues⟩
  obtain ⟨-, hh, -⟩ := hs.slots
  rw [State.setEngine_engines, get_set] at hi ⊢
  split at hi
  · next hk =>
    obtain ⟨hold, hin, hcur⟩ := hg i hi
    obtain ⟨-, hst, e, he, hand⟩ := hh l i hold
    rw [if_pos hk]
    exact ⟨hin, hst, e, hcur.trans he, hk ▸ hand⟩
  · next hk =>
    rw [if_neg hk]
    exact hh k i hi

/-- A change of one descriptor keeps the laws when a queue that is not empty keeps its lane, and its endpoint does not
become DISABLED. -/
theorem State.SlotsLawful.setDescriptor {d : Descriptor} (hs : s.SlotsLawful)
    (hlane : s.queues[e] ≠ [] → d.lane = s.endpoints[e].lane) (hst : d.state = .disabled → s.queues[e] = []) :
    (s.setDescriptor e d).SlotsLawful := by
  refine ⟨slotLaw_of_handLaw hs.slots rfl fun k i hi => ?_, fun x hx => ?_⟩
  · obtain ⟨-, hh, -⟩ := hs.slots
    obtain ⟨hin, hact, x, hcur, hlane', hq⟩ := hh k i hi
    refine ⟨hin, hact, x, hcur, ?_, hq⟩
    rw [State.setDescriptor_endpoints, get_set]
    split
    · next h =>
      subst h
      refine (hlane fun h => ?_).trans hlane'
      rw [h] at hq
      cases hq
    · exact hlane'
  · rw [State.setDescriptor_endpoints, get_set] at hx
    split at hx
    · next h => exact h ▸ hst hx
    · exact hs.queues x hx

/-- A change of a descriptor that keeps its lane, and does not become DISABLED, keeps the laws. -/
theorem State.SlotsLawful.setDescriptor_of_lane {d : Descriptor} (hs : s.SlotsLawful)
    (hlane : d.lane = s.endpoints[e].lane) (hst : d.state = .disabled → s.endpoints[e].state = .disabled) :
    (s.setDescriptor e d).SlotsLawful :=
  hs.setDescriptor (fun _ => hlane) fun h => hs.queues e (hst h)

/-! ### Requests that end (R29, R30, R36, R60, R61) -/

/-- A request of an endpoint that no engine serves ends. -/
theorem State.SlotsLawful.endSlot (hs : s.SlotsLawful) (hu : s.Unserved e) (hi : i ∈ s.queues[e]) (x : MemStatus) :
    (s.endSlot e i x).SlotsLawful := by
  refine ⟨endSlot_slotLaw hs.slots hi (not_hand_of_unserved hs.slots hu hi) x, fun d hd => ?_⟩
  rw [endSlot_endpoints] at hd
  have empty := hs.queues d hd
  rw [endSlot_frame]
  show (s.queues.set e (s.queues[e].erase i))[d] = []
  rw [get_set]
  split
  · next h => rw [h, empty, List.erase_nil]
  · exact empty

/-- The queue of an endpoint that no engine serves ends, and is empty. -/
theorem State.SlotsLawful.abortQueue (hs : s.SlotsLawful) (hu : s.Unserved e) :
    (s.abortQueue e).SlotsLawful ∧ (s.abortQueue e).queues[e] = [] := by
  unfold State.abortQueue
  generalize hq : s.queues[e] = q
  induction q generalizing s with
  | nil => exact ⟨hs, hq⟩
  | cons i q ih =>
    refine ih (hs.endSlot hu (hq ▸ List.mem_cons_self ..) .aborted) (unserved_congr (endSlot_engines ..) hu) ?_
    rw [endSlot_queues, hq, List.erase_cons_head]

/-- An endpoint whose queue is empty becomes DISABLED (R26). -/
theorem State.SlotsLawful.enterDisabled (hs : s.SlotsLawful) (hq : s.queues[e] = []) :
    (s.enterDisabled e).SlotsLawful :=
  State.SlotsLawful.congr (hs.setDescriptor (d := { s.endpoints[e] with state := .disabled }) (fun _ => rfl)
    fun _ => hq) rfl rfl

/-- R34 keeps the laws. -/
theorem State.SlotsLawful.drainIfEmpty (hs : s.SlotsLawful) (e : EndpointId) : (s.drainIfEmpty e).SlotsLawful := by
  rcases drainIfEmpty_cases s e with ⟨-, hq, h⟩ | ⟨-, h⟩ <;> rw [h]
  · exact hs.enterDisabled hq
  · exact hs

/-- The ending of STOPPING keeps the laws when no engine serves the endpoint (R29, R30, R36). -/
theorem State.SlotsLawful.stopEndpoint (hs : s.SlotsLawful) (hu : s.Unserved e) : (s.stopEndpoint e).SlotsLawful := by
  obtain ⟨ended, empty⟩ := hs.abortQueue hu
  exact State.SlotsLawful.enterDisabled (ended.setDescriptor_of_lane rfl id) empty

/-! ### Reports (R78, R79) -/

/-- The report of an uncut transaction keeps the laws when no engine serves the endpoint (R78). -/
theorem State.SlotsLawful.reportUncut {slot : Option SlotId} (hs : s.SlotsLawful) (hu : s.Unserved e)
    (hslot : ∀ i : SlotId, slot = some i → i ∈ s.queues[e]) : (s.reportUncut e slot).SlotsLawful := by
  have counted : (s.setDescriptor e
      { s.endpoints[e] with transactionsDone := s.endpoints[e].transactionsDone + 1 }).SlotsLawful :=
    hs.setDescriptor_of_lane rfl id
  unfold State.reportUncut
  cases slot with
  | none => exact counted
  | some i =>
    dsimp only
    split
    · exact counted
    · exact (counted.endSlot hu (hslot i rfl) .ok).drainIfEmpty e

/-- The report of a transaction cut by a link reset keeps the laws when no engine serves the endpoint (R78). -/
theorem State.SlotsLawful.reportLinkCut (hs : s.SlotsLawful) (hu : s.Unserved e) :
    (s.reportLinkCut e).SlotsLawful := by
  unfold State.reportLinkCut
  split
  · exact hs.stopEndpoint hu
  · exact hs.drainIfEmpty e
  all_goals exact hs

/-- A report keeps the laws when no engine serves the endpoint reported, and the slot is of its queue (R78). -/
theorem State.SlotsLawful.report {g : Engine} (hs : s.SlotsLawful)
    (hu : ∀ e, g.currentEndpoint = some e → s.Unserved e)
    (hslot : ∀ e, g.currentEndpoint = some e → ∀ i : SlotId, g.currentSlot = some i → i ∈ s.queues[e]) :
    (s.report g).SlotsLawful := by
  unfold State.report
  split
  · exact hs
  · next e he =>
    split
    · exact hs.reportUncut (hu e he) (hslot e he)
    · exact hs.stopEndpoint (hu e he)
    · exact hs.reportLinkCut (hu e he)

/-- An engine that releases its select has no slot in hand (R69, R79). -/
theorem State.SlotsLawful.released (hs : s.SlotsLawful) (l : LaneId) (g : Engine) (gapBits : BitVec 8) :
    (s.setEngine l (g.released gapBits)).SlotsLawful :=
  hs.setEngine (keepsHand_of_none rfl)

/-- A slot in hand stands in the queue of the endpoint its engine serves. -/
theorem mem_queue_of_hand (hs : s.SlotsLawful) (he : s.engines[l].currentEndpoint = some e)
    (hi : s.engines[l].currentSlot = some i) : i ∈ s.queues[e] := by
  obtain ⟨-, hh, -⟩ := hs.slots
  obtain ⟨-, -, hhead⟩ := head_of_hand hh hi he
  exact List.mem_of_mem_head? hhead

/-- The end of a transaction keeps the laws (R78, R79). -/
theorem State.SlotsLawful.finishTransaction (hs : s.SlotsLawful) (hl : s.laneLaw)
    (hin : s.engines[l].inTransaction = true) : (s.finishTransaction l).SlotsLawful :=
  (hs.released l ..).report (fun _ he => unserved_of_left hl (serves_of_laneLaw hl hin he).lane rfl)
    fun _ he _ hi => mem_queue_of_hand (s := s) hs he hi

end Sys2Proof.Machine
end

section
/-! PROOFS. The Slot Table's law and the law of the queues through resets, endpoint commands, management writes and lane
events (R24, R27 to R37, R63, R67 to R79, R148). -/

namespace Sys2Proof.Machine

variable {s t : State} {i : SlotId} {e : EndpointId} {l : LaneId}

/-! ### Operations that leave the slots -/

/-- The slot side reads of a slot what the collections' law reads. -/
theorem slotSide_of_hold {v : Vector Slot 64} (h : ∀ i : SlotId, v[i].hold = s.slots[i].hold) :
    ({ s with slots := v } : State).slotSide = s.slotSide := by
  simp only [State.slotSide, h]

theorem addNotice_slotSide (s : State) (n : Notice) : (s.addNotice n).slotSide = s.slotSide := by
  rw [addNotice_frame]
  rfl

theorem noteMalformed_slotSide (s : State) : s.noteMalformed.slotSide = s.slotSide :=
  addNotice_slotSide ..

theorem judgeLevel_slotSide (s : State) (e : EndpointId) : (s.judgeLevel e).slotSide = s.slotSide := by
  rcases judgeLevel_cases s e with ⟨-, -, -, h⟩ | h <;> rw [h]
  rfl

theorem writeWord_slotSide (s : State) (k : Nat) (v : Word) : (s.writeWord k v).slotSide = s.slotSide := by
  unfold State.writeWord
  split
  · rfl
  split
  · rfl
  split
  · dsimp only
    split
    · rw [judgeLevel_slotSide]
      rfl
    · rfl
  · rfl

theorem stopping_slotSide (s : State) (e : EndpointId) : (s.stopping e).slotSide = s.slotSide := by
  refine slotSide_of_hold (s := s.setEpState e .stopping) fun i => ?_
  rw [show (tabulate _ : Vector Slot 64)[i] = _ from stopping_slots s e i]
  split <;> rfl

theorem wordDone_slotSide (s : State) (g : Engine) (j : Nat) (din : Word) :
    (s.wordDone g j din).slotSide = s.slotSide := by
  unfold State.wordDone
  split
  · rfl
  next i _ =>
  have hold (j : SlotId) :
      (s.slots.set i { s.slots[i] with beatsDone := s.slots[i].beatsDone + 1 })[j].hold = s.slots[j].hold := by
    rw [get_set]
    split
    · next h => exact h ▸ rfl
    · rfl
  dsimp only
  split <;> exact slotSide_of_hold hold

theorem acknowledge_linkState (k : LinkPort) (n : SeqNum) : (k.acknowledge n).linkState = k.linkState := by
  unfold LinkPort.acknowledge
  split <;> rfl

theorem noteGap_linkState (k : LinkPort) : k.noteGap.linkState = k.linkState := by
  unfold LinkPort.noteGap
  split <;> rfl

theorem setLink_slotSide {k : LinkPort} (h : k.linkState = s.link.linkState) : (s.setLink k).slotSide = s.slotSide := by
  simp only [State.slotSide, State.setLink, h]

theorem acknowledge_slotSide (s : State) (n : SeqNum) :
    (s.setLink (s.link.acknowledge n)).slotSide = s.slotSide :=
  setLink_slotSide (acknowledge_linkState ..)

theorem sendCfgReply_slotSide (s : State) (r : CfgReply) : (s.sendCfgReply r).slotSide = s.slotSide := by
  rw [sendCfgReply_eq, grantCredits_slotSide]
  rfl

theorem sendNotice_slotSide (s : State) (n : Notice) : (s.sendNotice n).slotSide = s.slotSide := by
  rw [sendNotice_eq]
  rfl

theorem sendAttn_slotSide (s : State) (e : EndpointId) : (s.sendAttn e).slotSide = s.slotSide := by
  rw [sendAttn_eq]
  rfl

/-! ### The credit check (R153, R154) -/

/-- The credit check keeps the laws: a MEM packet handed on takes the credits that its slot and blocks stand for. -/
theorem State.SlotsLawful.creditCheck (hs : s.SlotsLawful) (hup : s.link.linkState = .up) (r : Request) :
    (s.creditCheck r).SlotsLawful := by
  rcases creditCheck_cases s r with ⟨kind, tag, h⟩ | ⟨m, -, request, data, h⟩ | ⟨c, -, -, h⟩ <;> rw [h]
  · rw [overrun_frame]
    exact hs.congr rfl rfl
  · obtain ⟨hc, hh, hb, hcr⟩ := hs.slots
    obtain ⟨req, dat⟩ := hcr.1 hup
    refine ⟨⟨hc, hh, hb, creditLaw_of_up hup ?_ ?_⟩, hs.queues⟩
    · show s.credits.request.available - 1 + (s.memHanded ++ [m]).length = s.freeSlots
      rw [List.length_append, List.length_singleton]
      omega
    · show s.credits.data.available - dataCreditsFor m.length +
        ((s.memHanded ++ [m]).map fun m => dataCreditsFor m.length).sum = s.freeBlocks.length
      rw [List.map_append, List.sum_append, List.map_singleton, List.sum_singleton]
      omega
  · exact hs.congr rfl rfl

/-- A packet judged while UP keeps the laws (R134, R137). -/
theorem State.SlotsLawful.judgeSequence (hs : s.SlotsLawful) (hup : s.link.linkState = .up) (p : HostPacket) :
    (s.judgeSequence p).SlotsLawful := by
  have accepted : (s.setLink s.link.accept).SlotsLawful := by
    exact hs.congr rfl rfl
  unfold State.judgeSequence
  dsimp only
  split_ifs
  · unfold State.acceptPacket
    dsimp only
    split
    · exact accepted.congr (noteMalformed_slotSide _) (noteMalformed_lanes _)
    · exact accepted.creditCheck hup _
  · exact hs.congr rfl rfl
  · exact hs.congr (setLink_slotSide (noteGap_linkState _)) rfl

/-! ### Resets (R63, R132, R147, R171) -/

/-- No slot is taken: every slot is free, every list empty, every block free, and no engine has a slot in hand. -/
structure State.Vacant (s : State) : Prop where
  slots : ∀ i : SlotId, s.slots[i].state = .free
  held : ∀ i : SlotId, s.slots[i].blocks = []
  queues : ∀ e : EndpointId, s.queues[e] = []
  completions : ∀ e : EndpointId, s.completions[e] = []
  immediate : s.immediate = []
  freeBlocks : s.freeBlocks = allBlocks
  handed : s.memHanded = []
  hands : ∀ l : LaneId, s.engines[l].currentSlot = none

/-- With no slot taken the laws hold, when the credits of an UP link are the initial ones (R132, R148). -/
theorem State.Vacant.slotsLawful (h : s.Vacant)
    (hup : s.link.linkState = .up → s.credits.request.available = 64 ∧ s.credits.data.available = 128) :
    s.SlotsLawful := by
  have free : s.freeSlots = 64 := freeSlots_of_all h.slots
  have blocks : s.freeBlocks.length = 128 := by rw [h.freeBlocks, allBlocks, List.length_finRange]
  refine ⟨⟨(collectionLaw_iff s).mpr ⟨⟨fun e => ?_, fun e => ?_, ?_⟩, fun i => ⟨fun e hi => ?_, fun e hi => ?_,
    fun hi => ?_, .inl (h.slots i)⟩⟩, fun l i hi => ?_, (blockLaw_iff s).mpr ⟨?_, fun i => ?_, fun i _ => h.held i,
    fun i b hb => ?_, fun i j b hb => ?_, fun b => .inl ?_⟩, fun up => ?_, fun _ => ⟨h.handed, free, blocks⟩⟩,
    fun e _ => h.queues e⟩
  · exact h.queues e ▸ List.nodup_nil
  · exact h.completions e ▸ List.nodup_nil
  · exact h.immediate ▸ List.nodup_nil
  · rw [h.queues] at hi
    cases hi
  · rw [h.completions] at hi
    cases hi
  · rw [h.immediate] at hi
    cases hi
  · rw [h.hands] at hi
    cases hi
  · rw [h.freeBlocks]
    exact List.pairwise_lt_finRange 128
  · exact h.held i ▸ List.nodup_nil
  · rw [h.held] at hb
    cases hb
  · rw [h.held] at hb
    cases hb
  · rw [h.freeBlocks]
    exact List.mem_finRange b
  · rw [h.handed, free, blocks]
    exact hup up

/-- A link reset leaves no slot in an engine's hand (R80). -/
theorem cutByLinkReset_currentSlot {g : Engine} (hg : g.inTransaction = false → g.currentSlot = none)
    (gapBits : BitVec 8) : (g.cutByLinkReset gapBits).currentSlot = none := by
  cases hin : g.inTransaction
  · rw [cutByLinkReset_of_outside hin]
    exact hg hin
  · rcases places_of_cut hin with h | h | h
    · rw [cutByLinkReset_of_beforeFirstUnit h]
      rfl
    · rw [cutByLinkReset_of_betweenUnits h]
    · rw [cutByLinkReset_of_unitInFlight h]

/-- An engine outside a transaction has no slot in hand (R65). -/
theorem currentSlot_of_outside (hs : s.handLaw) (h : s.engines[l].inTransaction = false) :
    s.engines[l].currentSlot = none :=
  Option.eq_none_iff_forall_ne_some.mpr fun i hi => Bool.noConfusion (h.symm.trans (hs l i hi).1)

/-- A link reset leaves no slot taken (R63). -/
theorem linkReset_vacant (hs : s.handLaw) : s.linkReset.Vacant := by
  obtain ⟨slots, queues, completions, immediate, freeBlocks, handed, -, -⟩ := linkReset_emptied s
  exact ⟨fun i => slots i ▸ rfl, fun i => slots i ▸ rfl, queues, completions, immediate, freeBlocks, handed,
    fun l => linkReset_engines s l ▸ cutByLinkReset_currentSlot (currentSlot_of_outside hs) _⟩

/-- A replay start keeps the laws, whether or not it fails the link (R145, R147). -/
theorem State.SlotsLawful.startReplay (hs : s.SlotsLawful) : s.startReplay.SlotsLawful := by
  obtain ⟨-, hh, -⟩ := hs.slots
  rcases startReplay_cases s with ⟨-, h⟩ | ⟨-, h⟩ <;> rw [h]
  · exact hs.congr rfl rfl
  · obtain ⟨slots, held, queues, completions, immediate, freeBlocks, handed, hands⟩ := linkReset_vacant hh
    exact State.Vacant.slotsLawful ⟨slots, held, queues, completions, immediate, freeBlocks, handed, hands⟩
      fun up => LinkState.noConfusion up

theorem State.SlotsLawful.takeNak (hs : s.SlotsLawful) (n : SeqNum) : (s.takeNak n).SlotsLawful := by
  have acknowledged : (s.setLink (s.link.acknowledge n)).SlotsLawful := hs.congr (acknowledge_slotSide ..) rfl
  unfold State.takeNak
  dsimp only
  split
  · exact acknowledged
  · exact acknowledged.startReplay

/-- A SYNC keeps the laws: its grants are the free slots and blocks of an UP link reset, and of a DOWN link (R132,
R148). -/
theorem State.SlotsLawful.takeSync (hs : s.SlotsLawful) : s.takeSync.SlotsLawful := by
  obtain ⟨hc, hh, hb, hcr⟩ := hs.slots
  unfold State.takeSync
  dsimp only
  split
  · obtain ⟨slots, held, queues, completions, immediate, freeBlocks, handed, hands⟩ := linkReset_vacant hh
    exact State.Vacant.slotsLawful ⟨slots, held, queues, completions, immediate, freeBlocks, handed, hands⟩
      fun _ => ⟨rfl, rfl⟩
  · next hup =>
    obtain ⟨handed, free, blocks⟩ := hcr.2 (by cases h : s.link.linkState <;> simp_all)
    refine ⟨⟨hc, hh, hb, creditLaw_of_up rfl ?_ ?_⟩, hs.queues⟩
    · show 64 + s.memHanded.length = s.freeSlots
      rw [handed, free]
      rfl
    · show 128 + (s.memHanded.map fun m => dataCreditsFor m.length).sum = s.freeBlocks.length
      rw [handed, blocks]
      rfl

/-- After a device reset no slot is taken (R64, R171). -/
theorem deviceReset_vacant (s : State) : s.deviceReset.Vacant := by
  constructor <;> simp [State.deviceReset, State.reset, Slot.reset, Engine.reset]

/-! ### ABORT-ENDPOINT (R30, R31, R80) -/

/-- A cut by ABORT keeps the laws when the endpoint is served by no engine once this one has left (R80). -/
theorem State.SlotsLawful.cutByAbort (hs : s.SlotsLawful) (hin : s.engines[l].inTransaction = true)
    (he : s.engines[l].currentEndpoint = some e)
    (left : ∀ g : Engine, g.inTransaction = false → (s.setEngine l g).Unserved e) : (s.cutByAbort l).SlotsLawful := by
  by_cases hc : s.engines[l].cut = .link
  · rw [cutByAbort_of_link hc]
    exact hs
  rcases places_of_cut hin with h | h | h
  · rw [cutByAbort_of_beforeFirstUnit hc he h]
    exact (hs.setEngine (keepsHand_of_none rfl)).stopEndpoint (left _ rfl)
  · rw [cutByAbort_of_betweenUnits hc h]
    exact hs.setEngine (keepsHand_of_same rfl hin rfl)
  · rw [cutByAbort_of_unitInFlight hc h]
    exact hs.setEngine (keepsHand_of_same rfl hin rfl)

/-- ABORT-ENDPOINT with a transaction in hand keeps the laws (R31). -/
theorem State.SlotsLawful.abortInside (hs : s.SlotsLawful) (hl : s.laneLaw) (hin : s.inside e = true) :
    (abortInside e s).SlotsLawful := by
  obtain ⟨hg, he⟩ := (inside_iff s e).mp hin
  have hin := (inTransaction_iff _).mpr hg
  have stopping : (s.stopping e).SlotsLawful :=
    (hs.setDescriptor_of_lane (d := { s.endpoints[e] with state := .stopping }) rfl EpState.noConfusion).congr
      (stopping_slotSide s e) rfl
  exact stopping.cutByAbort hin he fun g hg => unserved_congr (s := s.setEngine _ g) rfl (unserved_of_left hl rfl hg)

end Sys2Proof.Machine
end

section
/-! PROOFS. The Slot Table's law and the law of the queues through every command (R26, R43, R50, R157). -/

namespace Sys2Proof.Machine

variable {s t : State} {i : SlotId} {e : EndpointId} {l : LaneId}

/-! ### Endpoint commands (R27 to R34) -/

theorem State.SlotsLawful.enableEndpoint (hs : s.SlotsLawful) (e : EndpointId) :
    (enableEndpoint e s).2.SlotsLawful := by
  unfold Machine.enableEndpoint
  dsimp only
  split
  · split_ifs
    · exact hs
    · exact hs
    · exact (hs.setDescriptor_of_lane (d := { s.endpoints[e] with state := .active, haltCause := .none }) rfl
        EpState.noConfusion).congr (judgeLevel_slotSide ..) (judgeLevel_lanes ..)
  all_goals exact hs

theorem State.SlotsLawful.disableEndpoint (hs : s.SlotsLawful) (hl : s.laneLaw) (e : EndpointId) :
    (disableEndpoint e s).2.SlotsLawful := by
  unfold Machine.disableEndpoint
  split
  · split
    · next h => exact hs.enterDisabled h.1
    · exact hs.setDescriptor_of_lane rfl EpState.noConfusion
  · exact hs
  · next hst => exact hs.stopEndpoint (unserved_of_state hl (.inr hst))
  all_goals exact hs

/-- ABORT-ENDPOINT from ACTIVE or DRAINING keeps the laws, with or without a transaction in hand (R30, R31). -/
theorem State.SlotsLawful.abortRunning (hs : s.SlotsLawful) (hl : s.laneLaw) (e : EndpointId) :
    (if s.inside e then (CfgStatus.ok, Machine.abortInside e s) else (.ok, s.stopEndpoint e)).2.SlotsLawful := by
  split
  · next hin => exact hs.abortInside hl hin
  · next hin => exact hs.stopEndpoint (unserved_of_not_inside hl (Bool.not_eq_true _ ▸ hin))

theorem State.SlotsLawful.abortEndpoint (hs : s.SlotsLawful) (hl : s.laneLaw) (e : EndpointId) :
    (abortEndpoint e s).2.SlotsLawful := by
  unfold Machine.abortEndpoint
  split
  · exact hs.abortRunning hl e
  · exact hs.abortRunning hl e
  · next hst => exact hs.stopEndpoint (unserved_of_state hl (.inr hst))
  all_goals exact hs

theorem State.SlotsLawful.resumeEndpoint (hs : s.SlotsLawful) (e : EndpointId) :
    (resumeEndpoint e s).2.SlotsLawful := by
  unfold Machine.resumeEndpoint
  dsimp only
  split
  · refine State.SlotsLawful.drainIfEmpty (hs.setDescriptor (fun _ => ?_) fun h => ?_) e
    · rfl
    · dsimp only at h
      split at h <;> cases h
  all_goals exact hs

/-! ### Management writes (R24, R164, R169, R178) -/

/-- Writing a word that passed keeps the laws, the states of the endpoints being those it was judged on: a lane is
written only while its endpoint is DISABLED, whose queue is empty (R24, R164). -/
theorem State.SlotsLawful.writeWord {u : State} (hu : u.SlotsLawful) {length k : Nat} {v : Word}
    (hstate : ∀ e : EndpointId, u.endpoints[e].state = s.endpoints[e].state) (hpass : s.judgeWord length k v = none) :
    (u.writeWord k v).SlotsLawful := by
  by_cases hk : 0x200 ≤ k ∧ k < 0x300
  · obtain ⟨e, c, hc, rfl⟩ := exists_descriptor_place hk
    rw [judgeWord_descriptor s length e hc] at hpass
    have state := descriptor_writeWord_state u.endpoints[e] c v
    have written : (u.setDescriptor e (u.endpoints[e].writeWord c v)).SlotsLawful := by
      refine hu.setDescriptor (fun hq => ?_) fun h => hu.queues e (state ▸ h)
      by_cases h2 : c = 2
      · subst h2
        exact absurd (hu.queues e ((hstate e).trans (disabled_of_judgeWord_two hpass))) hq
      · exact (descriptor_writeWord_lane _ h2 v).1
    exact written.congr (writeWord_slotSide ..) (writeWord_lanes_of_descriptor u e hc v)
  · exact hu.congr (writeWord_slotSide ..) (writeWord_lanes_of_outside u hk v)

/-- Writing the words of a write that passed keeps the laws (R164). -/
theorem State.SlotsLawful.writeWords {length start : Nat} (vs : List Word) (k : Nat) {u : State} (hu : u.SlotsLawful)
    (hstate : ∀ e : EndpointId, u.endpoints[e].state = s.endpoints[e].state)
    (hpass : firstFailure s length start k vs = none) : (writeWords u (start + k) vs).SlotsLawful := by
  induction vs generalizing k u with
  | nil => exact hu
  | cons v vs ih =>
    rw [firstFailure] at hpass
    split at hpass
    · cases hpass
    · next hv => exact ih (k + 1) (hu.writeWord hstate hv) (fun e => (writeWord_states ..).trans (hstate e)) hpass

theorem State.SlotsLawful.writeAct (hs : s.SlotsLawful) (r : CfgRequest) : (writeAct r s).2.SlotsLawful := by
  unfold Machine.writeAct
  split_ifs
  · exact hs
  · exact hs
  · split
    · exact hs
    · next hpass => exact hs.writeWords r.data 0 (fun _ => rfl) hpass

/-- A reset of the counters keeps the laws (R169). -/
theorem State.SlotsLawful.clearCounters (hs : s.SlotsLawful) : (clearCounters s).SlotsLawful := by
  refine ⟨slotLaw_of_handLaw hs.slots rfl fun l i hi => ?_, fun e he => hs.queues e ?_⟩
  · obtain ⟨-, hh, -⟩ := hs.slots
    obtain ⟨hin, hst, e, hcur, hlane, hq⟩ := hh l i hi
    refine ⟨hin, hst, e, hcur, ?_, hq⟩
    simpa only [Machine.clearCounters, tabulate_get] using hlane
  · simpa only [Machine.clearCounters, tabulate_get] using he

/-! ### The lane events (R67 to R79) -/

theorem execGrant_slotsLawful (hs : s.SlotsLawful) (l : LaneId) : Leads (execGrant l s) State.SlotsLawful := by
  refine leads_unlessHeld hs ?_
  split
  · exact leads_next.mpr hs
  split
  · exact leads_next.mpr hs
  next k e he =>
  split
  · exact leads_next.mpr hs
  next i hi =>
  split
  · exact leads_next.mpr hs
  next t _ =>
  obtain ⟨-, hlane, -⟩ := firstEligible_found he
  exact leads_next.mpr ⟨slotLaw_of_granted hs.slots hi hlane (granted_inTransaction ..) rfl rfl, hs.queues⟩

theorem execReadySeen_slotsLawful (hs : s.SlotsLawful) (l : LaneId) : Leads (execReadySeen l s) State.SlotsLawful := by
  refine leads_unlessHeld hs ?_
  split
  · exact leads_next.mpr (hs.setEngine (keepsHand_of_same rfl rfl rfl))
  all_goals exact leads_next.mpr hs

/-- A ready timeout keeps the laws: its slot ends once the engine has let go of it (R35, R69). -/
theorem execReadyTimeout_slotsLawful (hs : s.SlotsLawful) (hl : s.laneLaw) (l : LaneId) :
    Leads (execReadyTimeout l s) State.SlotsLawful := by
  refine leads_unlessHeld hs ?_
  split
  case h_1 hg =>
    have hin := (inTransaction_iff _).mpr (.inl hg)
    have released := hs.released l s.engines[l] (s.gapBitsOf s.engines[l])
    dsimp only
    split
    · exact leads_next.mpr released
    · next e he =>
      have left := unserved_of_left (g := s.engines[l].released (s.gapBitsOf s.engines[l])) hl
        (serves_of_laneLaw hl hin he).lane rfl
      split
      · exact leads_next.mpr (released.setDescriptor_of_lane rfl EpState.noConfusion)
      · next i hi =>
        exact leads_next.mpr
          ((released.endSlot left (mem_queue_of_hand (s := s) hs he hi) .timeout).setDescriptor_of_lane rfl
            EpState.noConfusion)
  all_goals exact leads_next.mpr hs

/-- An engine that moves on inside its transaction keeps the laws. -/
theorem State.SlotsLawful.sameTransaction {g : Engine} (hs : s.SlotsLawful) (hg : s.engines[l].engineState = .shifting)
    (h : s.engines[l].SameTransaction g) : (s.setEngine l g).SlotsLawful := by
  unfold Engine.SameTransaction at h
  have state : g.engineState = s.engines[l].engineState := by rw [h]
  have slot : g.currentSlot = s.engines[l].currentSlot := by rw [h]
  have current : g.currentEndpoint = s.engines[l].currentEndpoint := by rw [h]
  exact hs.setEngine (keepsHand_of_same slot ((inTransaction_iff _).mpr (.inr (state.trans hg))) current)

theorem execGapEnd_slotsLawful (hs : s.SlotsLawful) (l : LaneId) : Leads (execGapEnd l s) State.SlotsLawful := by
  obtain ⟨-, hh, -⟩ := hs.slots
  refine leads_unlessHeld hs ?_
  split
  · next hg =>
    have outside := (inTransaction_eq_false_iff s.engines[l]).mpr (.inr hg)
    exact leads_next.mpr (hs.setEngine (keepsHand_of_none (currentSlot_of_outside hh outside)))
  all_goals exact leads_next.mpr hs

/-! ### Requests taken (R52) -/

/-- A refusal leaves the queues (R56, R57). -/
theorem refuse_queues (m : MemRequest) (x : MemStatus) (w : Option WindowId) (i : SlotId) (s : State) :
    (refuse m x w i s).queues = s.queues := by
  have non_posted : (refuseNonPosted m x i s).queues = s.queues := by
    rw [refuseNonPosted, grantCredits_frame]
    rfl
  have posted (e : EndpointId) : (refusePosted m x e i s).queues = s.queues := by
    rw [refusePosted, grantCredits_frame, addNotice_frame]
    rfl
  unfold refuse
  split
  · split
    · exact posted _
    · exact non_posted
  · exact non_posted
  · exact non_posted

/-- Acceptance lengthens the queue of its window's endpoint alone (R55). -/
theorem accept_queues {m : MemRequest} {w : WindowId} (h : accept m w i s = .next t) :
    t.endpoints = s.endpoints ∧ ∀ e : EndpointId, e ≠ s.windows[w].endpoint → t.queues[e] = s.queues[e] := by
  unfold accept at h
  dsimp only at h
  split at h
  · cases h
  · obtain rfl := Host.Outcome.next.inj h
    exact ⟨rfl, fun e he => get_set_other _ _ _ _ he.symm⟩

/-- Taking a MEM request keeps the laws (R52, R55 to R57). -/
theorem takeMem_slotsLawful (hs : s.SlotsLawful) (d : Direction) : Leads (takeMem d s) State.SlotsLawful := by
  intro t ht
  rcases takeMem_cases ht with rfl | ⟨m, rest, hm, -, hreq⟩
  · exact hs
  obtain ⟨i, hi, ⟨w, hw, hacc⟩ | ⟨x, w, -, rfl⟩⟩ := takeRequest_cases hreq
  · obtain ⟨hok, hactive⟩ := of_check_accepted hw
    have slots := accept_slotLaw hs.slots hm hi hok t hacc
    refine ⟨slots, fun e he => ?_⟩
    obtain ⟨endpoints, queues⟩ := accept_queues hacc
    rw [endpoints] at he
    refine (queues e fun h => ?_).trans (hs.queues e he)
    rw [h] at he
    exact EpState.noConfusion (hactive.symm.trans he)
  · refine ⟨refuse_slotLaw hs.slots hm hi, fun e he => ?_⟩
    obtain ⟨endpoints, -⟩ := (lanes_eq_iff _ _).mp (refuse_lanes { s with memHanded := rest } m x w i)
    rw [refuse_queues]
    exact hs.queues e (endpoints ▸ he)

/-! ### Every command -/

/-- Taking a CFG request keeps the laws when its act does, the lanes' law holding (R162). -/
theorem takeCfg_slotsLawful (hs : s.SlotsLawful) (hl : s.laneLaw) {p : CfgRequest → Bool}
    {act : CfgRequest → State → CfgReply × State}
    (h : ∀ r u, u.SlotsLawful → u.laneLaw → (act r u).2.SlotsLawful) :
    Leads (unlessHeld s (takeCfg s p act)) State.SlotsLawful := by
  refine leads_unlessHeld hs fun t ht => ?_
  rcases takeCfg_cases ht with rfl | ⟨r, rest, -, -, -, rfl⟩
  · exact hs
  · exact (h r { s with cfgHanded := rest } (hs.congr rfl rfl) (laneLaw_congr rfl hl)).congr rfl rfl

/-- Taking a command keeps the laws when performing it does, the lanes' law holding (R168). -/
theorem takeCommand_slotsLawful (hs : s.SlotsLawful) (hl : s.laneLaw) {code : Byte}
    {perform : Byte → State → CfgStatus × State}
    (h : ∀ index u, u.SlotsLawful → u.laneLaw → (perform index u).2.SlotsLawful) :
    Leads (unlessHeld s (takeCommand s code perform)) State.SlotsLawful := by
  refine takeCfg_slotsLawful hs hl fun r u hu hlu => ?_
  unfold commandAct
  split
  · exact hu
  · exact (h _ _ hu hlu).congr rfl rfl

/-- An endpoint command keeps the laws when it does so on the endpoint its index names (R168). -/
theorem takeEndpointCommand_slotsLawful (hs : s.SlotsLawful) (hl : s.laneLaw) {code : Byte}
    {f : EndpointId → State → CfgStatus × State} (h : ∀ u, u.SlotsLawful → u.laneLaw → ∀ e, (f e u).2.SlotsLawful) :
    Leads (unlessHeld s (takeCommand s code (onEndpoint f))) State.SlotsLawful := by
  refine takeCommand_slotsLawful hs hl fun index u hu hlu => ?_
  rcases onEndpoint_cases f index u with heq | ⟨e, heq⟩ <;> rw [heq]
  · exact hu
  · exact h u hu hlu e

/-- A window command keeps the laws when it leaves the slots and the lanes (R168). -/
theorem takeWindowCommand_slotsLawful (hs : s.SlotsLawful) (hl : s.laneLaw) {code : Byte}
    {f : WindowId → State → CfgStatus × State}
    (h : ∀ w u, (f w u).2.slotSide = u.slotSide ∧ (f w u).2.lanes = u.lanes) :
    Leads (unlessHeld s (takeCommand s code (onWindow f))) State.SlotsLawful := by
  refine takeCommand_slotsLawful hs hl fun index u hu _ => ?_
  rcases onWindow_cases f index u with heq | ⟨w, heq⟩ <;> rw [heq]
  · exact hu
  · obtain ⟨slots, lanes⟩ := h w u
    exact hu.congr slots lanes

theorem commitWindow_slotSide (w : WindowId) (u : State) : (commitWindow w u).2.slotSide = u.slotSide := by
  rcases commitWindow_cases w u with ⟨-, h⟩ | ⟨kind, e, -, h⟩ <;> rw [h]
  split <;> rfl

theorem execDeviceReset_slotsLawful (hs : s.SlotsLawful) : Leads (execDeviceReset s) State.SlotsLawful := by
  refine leads_unlessHeld hs ?_
  split
  · exact leads_next.mpr hs
  · split_ifs
    · exact leads_next.mpr (hs.congr rfl rfl)
    · exact leads_fault _
    · exact leads_next.mpr ((deviceReset_vacant s).slotsLawful fun up => LinkState.noConfusion up)
    · exact leads_next.mpr hs

/-- A slot answered keeps the laws (R62). -/
theorem State.SlotsLawful.sendSlotReply {d : Direction} {c : Candidate} (hs : s.SlotsLawful) (ho : s.Offers c)
    (h : s.sendSlotReply d c = some t) : t.SlotsLawful := by
  obtain ⟨endpoints, -⟩ := (lanes_eq_iff s t).mp (sendSlotReply_lanes h)
  unfold State.sendSlotReply at h
  split at h
  · obtain ⟨-, is, hi⟩ := ho
    simp only [Option.ite_none_right_eq_some, Option.some.injEq] at h
    obtain ⟨-, rfl⟩ := h
    refine ⟨sendImmediate_slotLaw hi hs.slots, fun e he => ?_⟩
    rw [sendImmediate_eq, grantCredits_frame]
    exact hs.queues e (endpoints ▸ he)
  · obtain ⟨-, is, hi⟩ := ho
    simp only [Option.ite_none_right_eq_some, Option.some.injEq] at h
    obtain ⟨-, rfl⟩ := h
    refine ⟨sendCompletion_slotLaw hi hs.slots, fun e he => ?_⟩
    rw [sendCompletion_eq, grantCredits_frame]
    exact hs.queues e (endpoints ▸ he)
  · cases h

/-- Every command keeps the Slot Table's law and that of the queues (R26, R43, R50, R157). -/
theorem exec_slotsLawful (c : Instr) (hs : s.SlotsLawful) (hl : s.laneLaw) : Leads (exec c s) State.SlotsLawful := by
  have kept {t : State} (h : t.slotSide = s.slotSide) (hl : t.lanes = s.lanes) : t.SlotsLawful := hs.congr h hl
  have left {t : State} (h : t.slotSide = s.slotSide) (hl : t.lanes = s.lanes) : Leads (.next t) State.SlotsLawful :=
    leads_next.mpr (kept h hl)
  cases c with
  | badPacket f =>
    refine leads_unlessHeld hs ?_
    split
    · refine left (setLink_slotSide ?_) rfl
      split
      · exact noteGap_linkState _
      · rfl
    · exact left rfl rfl
  | sequencedPacket f =>
    refine leads_unlessHeld hs ?_
    split
    · split
      · next hup => exact leads_next.mpr (hs.judgeSequence hup _)
      · exact left rfl rfl
    · exact left rfl rfl
  | hostAck f =>
    refine leads_unlessHeld hs ?_
    split
    · split_ifs
      · exact left rfl rfl
      · exact left (noteMalformed_slotSide s) (noteMalformed_lanes s)
      · exact left (acknowledge_slotSide ..) rfl
      · exact left rfl rfl
    · exact left rfl rfl
  | hostNak f =>
    refine leads_unlessHeld hs ?_
    split
    · split_ifs
      · exact left rfl rfl
      · exact left (noteMalformed_slotSide s) (noteMalformed_lanes s)
      · exact leads_next.mpr (hs.takeNak _)
      · exact left rfl rfl
    · exact left rfl rfl
  | sync f =>
    refine leads_unlessHeld hs ?_
    split
    · split
      · exact leads_next.mpr hs.takeSync
      · exact left (noteMalformed_slotSide s) (noteMalformed_lanes s)
    · exact left rfl rfl
  | memRead => exact leads_unlessHeld hs (takeMem_slotsLawful hs _)
  | memWrite => exact leads_unlessHeld hs (takeMem_slotsLawful hs _)
  | cfgRead =>
    refine takeCfg_slotsLawful hs hl fun r u hu _ => ?_
    unfold readAct
    split <;> exact hu
  | cfgWrite => exact takeCfg_slotsLawful hs hl fun r u hu _ => hu.writeAct r
  | attentionAcknowledge =>
    refine takeCfg_slotsLawful hs hl fun r u hu _ => ?_
    unfold acknowledgeAct
    split <;> exact hu.congr rfl rfl
  | commitWindow =>
    exact takeWindowCommand_slotsLawful hs hl fun w u => ⟨commitWindow_slotSide w u, commitWindow_lanes w u⟩
  | clearWindow => exact takeWindowCommand_slotsLawful hs hl fun _ _ => ⟨rfl, rfl⟩
  | fetchWindow => exact takeWindowCommand_slotsLawful hs hl fun _ _ => ⟨rfl, rfl⟩
  | enableEndpoint => exact takeEndpointCommand_slotsLawful hs hl fun _ hu _ => hu.enableEndpoint
  | disableEndpoint => exact takeEndpointCommand_slotsLawful hs hl fun _ => State.SlotsLawful.disableEndpoint
  | abortEndpoint => exact takeEndpointCommand_slotsLawful hs hl fun _ => State.SlotsLawful.abortEndpoint
  | resumeEndpoint => exact takeEndpointCommand_slotsLawful hs hl fun _ hu _ => hu.resumeEndpoint
  | clearCounters => exact takeCommand_slotsLawful hs hl fun _ _ hu _ => hu.clearCounters
  | deviceReset => exact execDeviceReset_slotsLawful hs
  | unknownCommand =>
    refine takeCfg_slotsLawful hs hl fun r u hu _ => ?_
    unfold commandAct
    split <;> exact hu.congr rfl rfl
  | ack | nak | syncAck | syncRequest | resend =>
    refine leads_onChoice hs fun c t h => ?_
    cases c <;> simp at h
    subst h
    exact kept rfl rfl
  | cfgReply | notice | attn =>
    refine leads_onChoice hs fun c t h => ?_
    cases c <;> simp at h
    subst h
    exact kept (by simp only [sendCfgReply_slotSide, sendNotice_slotSide, sendAttn_slotSide])
      (by simp only [sendCfgReply_lanes, sendNotice_lanes, sendAttn_lanes])
  | readData => exact leads_onChoice_of_offers hs fun _ _ ho h => hs.sendSlotReply ho h
  | writeDone => exact leads_onChoice_of_offers hs fun _ _ ho h => hs.sendSlotReply ho h
  | transmissionEnd => exact leads_unlessHeld hs (left rfl rfl)
  | replayTimerExpiry =>
    refine leads_unlessHeld hs ?_
    split
    · exact leads_next.mpr hs.startReplay
    · exact left rfl rfl
  | refreshTimerExpiry => exact leads_unlessHeld hs (by split <;> exact left rfl rfl)
  | requestTimerExpiry => exact leads_unlessHeld hs (by split <;> exact left rfl rfl)
  | grant l => exact execGrant_slotsLawful hs l
  | readySeen l => exact execReadySeen_slotsLawful hs l
  | readyTimeout l => exact execReadyTimeout_slotsLawful hs hl l
  | phaseEnd l =>
    intro t ht
    rcases execPhaseEnd_cases ht with rfl | ⟨g, -, hg, hsame, rfl⟩
    · exact hs
    · exact hs.sameTransaction hg hsame
  | wordComplete l din =>
    intro t ht
    rcases execWordComplete_cases ht with rfl | ⟨j, g, -, hg, hsame, rfl⟩
    · exact hs
    · obtain ⟨-, engines⟩ := (lanes_eq_iff _ _).mp (wordDone_lanes s s.engines[l] j din)
      have done := hs.congr (wordDone_slotSide s s.engines[l] j din) (wordDone_lanes ..)
      generalize s.wordDone s.engines[l] j din = u at engines done ⊢
      rw [← engines] at hg hsame
      exact done.sameTransaction hg hsame
  | release l =>
    refine leads_unlessHeld hs ?_
    split
    · next hg _ _ => exact leads_next.mpr (hs.finishTransaction hl ((inTransaction_iff _).mpr (.inr hg)))
    · exact left rfl rfl
  | gapEnd l => exact execGapEnd_slotsLawful hs l
  | attentionSample levels => exact leads_unlessHeld hs (left rfl rfl)
  | resetNAssert =>
    have vacant := (deviceReset_vacant s).slotsLawful fun up => LinkState.noConfusion up
    exact leads_next.mpr (vacant.congr rfl rfl)
  | resetNRelease =>
    show Leads (execResetNRelease s) _
    unfold execResetNRelease
    split <;> exact left rfl rfl

end Sys2Proof.Machine
end

section
/-! PROOFS. No step faults (R52, R157, R166), and every law through every command. -/

namespace Sys2Proof.Machine

variable {s : State}

/-! ### Outcomes -/

theorem completes_next (t : State) : completes (.next t) := ⟨t, rfl⟩

/-- A command under `unlessHeld` has a next state when it has one outside reset (R171). -/
theorem completes_unlessHeld {r : Result} (h : completes r) : completes (unlessHeld s r) := by
  unfold unlessHeld
  split
  · exact completes_next s
  · exact h

/-- A packet command has a next state (R103). -/
theorem completes_onChoice (s : State) (act : Candidate → Option State) : completes (onChoice s act) := by
  refine completes_unlessHeld ?_
  split
  · exact completes_next s
  · split <;> exact completes_next _

/-! ### The three faults (R52, R166) -/

/-- While a CFG request is handed on, the management reply list has a place (R157, R166). -/
theorem replyPlace_of_cfgHanded (hs : s.managementLaw) (h : s.cfgHanded ≠ []) : s.replyPlace = true := by
  have balance := hs.1 (up_of_cfgHanded hs h)
  have := List.length_pos_iff.mpr h
  refine decide_eq_true ?_
  omega

/-- Taking a CFG request does not fault (R162, R166). -/
theorem completes_takeCfg (hs : s.managementLaw) (p : CfgRequest → Bool)
    (act : CfgRequest → State → CfgReply × State) : completes (takeCfg s p act) := by
  unfold takeCfg
  split
  · exact completes_next s
  · next hr =>
    have place := replyPlace_of_cfgHanded hs (by simp [hr])
    rw [if_pos place]
    split <;> exact completes_next _

/-- A device reset does not fault (R166, R170). -/
theorem completes_deviceReset (hs : s.managementLaw) : completes (execDeviceReset s) := by
  refine completes_unlessHeld ?_
  split
  · exact completes_next s
  · next hr =>
    have place := replyPlace_of_cfgHanded hs (by simp [hr])
    rw [if_pos place]
    split_ifs <;> exact completes_next _

/-- Taking a MEM request does not fault: a slot is free, and the blocks of a request accepted are (R52, R157). -/
theorem completes_takeMem (hs : s.slotLaw) (d : Direction) : completes (takeMem d s) := by
  unfold takeMem
  split
  · exact completes_next s
  next m rest hm =>
  split
  · obtain ⟨i, hi⟩ := lowestFreeSlot_found (one_le_freeSlots hs hm)
    have slot : ({ s with memHanded := rest } : State).lowestFreeSlot = some i := hi
    unfold takeRequest
    rw [slot]
    dsimp only
    split
    · next w hw =>
      obtain ⟨hok, -⟩ := of_check_accepted hw
      have needed : dataCreditsFor m.length = blocksFor m.length.toNat := if_pos hok
      have enough : blocksFor m.length.toNat ≤ s.freeBlocks.length := needed ▸ dataCreditsFor_le_freeBlocks hs hm
      rw [accept_of_blocks (s := { s with memHanded := rest }) w i enough]
      exact completes_next _
    · exact completes_next _
  · exact completes_next s

/-- No command faults (R52, R157, R166). -/
theorem exec_completes (c : Instr) (hm : s.managementLaw) (hs : s.slotLaw) : completes (exec c s) := by
  cases c with
  | memRead => exact completes_unlessHeld (completes_takeMem hs _)
  | memWrite => exact completes_unlessHeld (completes_takeMem hs _)
  | cfgRead | cfgWrite | attentionAcknowledge | commitWindow | clearWindow | fetchWindow | enableEndpoint
  | disableEndpoint | abortEndpoint | resumeEndpoint | clearCounters | unknownCommand =>
    exact completes_unlessHeld (completes_takeCfg hm _ _)
  | deviceReset => exact completes_deviceReset hm
  | ack | nak | syncAck | syncRequest | resend | cfgReply | notice | attn | readData | writeDone =>
    exact completes_onChoice s _
  | badPacket | sequencedPacket | hostAck | hostNak | sync | transmissionEnd | replayTimerExpiry | refreshTimerExpiry
  | requestTimerExpiry | grant | readySeen | phaseEnd | wordComplete | release | gapEnd
  | attentionSample =>
    refine completes_unlessHeld ?_
    repeat' split
    all_goals exact completes_next _
  | readyTimeout =>
    refine completes_unlessHeld ?_
    split
    · dsimp only
      split <;> exact completes_next _
    all_goals exact completes_next _
  | resetNAssert => exact completes_next _
  | resetNRelease =>
    show completes (execResetNRelease s)
    unfold execResetNRelease
    split <;> exact completes_next _

/-- Every command keeps every law. -/
theorem exec_law (c : Instr) (hs : s.law) : Leads (exec c s) State.law := by
  obtain ⟨window, link, lane, attn, notice, management, slot, queue⟩ := hs
  intro t ht
  obtain ⟨slot', queue'⟩ := exec_slotsLawful c ⟨slot, queue⟩ lane t ht
  exact ⟨exec_windowLaw c window t ht, exec_linkLaw c link t ht, exec_laneLaw c lane t ht,
    attnLaw_outlasts.exec_keeps c attn t ht, noticeLaw_outlasts.exec_keeps c notice t ht,
    managementLaw_outlasts.exec_keeps c management t ht, slot', queue'⟩

end Sys2Proof.Machine
end

section
/-! PROOFS. O60: every law, and no fault. -/

namespace Sys2Proof.Proofs

open Sys2Proof.Machine

/-- Settles O60: an empty queue idles; every command has a next state, and keeps every law. -/
theorem lawsKeptAndNoFault : Obligations.LawsKeptAndNoFault := by
  intro s hs
  unfold step
  split
  · exact ⟨s, rfl, hs⟩
  · next c rest _ =>
    have taken : ({ s with pending := rest } : State).law := hs
    obtain ⟨-, -, -, -, -, management, slot, -⟩ := id taken
    obtain ⟨t, ht⟩ := exec_completes c management slot
    exact ⟨t, ht, exec_law c taken t ht⟩

end Sys2Proof.Proofs
end

section
/-! PROOFS. The work of a head, the arbiter's search and the grant (R46, R67, R88, R89). -/

namespace Sys2Proof.Machine

variable {s : State}

/-! ### The head's work (R46) -/

theorem slotInFlight_iff (l : LaneId) (i : SlotId) : s.slotInFlight l i = true ↔
    (s.engines[l].engineState = .waitReady ∨ s.engines[l].engineState = .shifting) ∧
      s.engines[l].currentSlot = some i := by
  simp only [State.slotInFlight, Bool.and_eq_true, decide_eq_true_eq, inTransaction_iff]

/-- A REGISTER request has a transaction left for each beat neither done nor in flight, a BLOCK or STREAM request its one
transaction while QUEUED (R46, R59). -/
theorem transactionsLeft_pos_iff {i : SlotId} {t : Snapshot} (l : LaneId) (ht : s.slots[i].translation = some t) :
    0 < s.transactionsLeft l i ↔ (t.kind ≠ .register → s.slots[i].state = .queued) ∧
      (t.kind = .register →
        s.slots[i].beatsDone + (if s.slotInFlight l i then 1 else 0) < s.slots[i].length.toNat) := by
  simp only [State.transactionsLeft, ht]
  cases t.kind with
  | register =>
    simp only [ne_eq, not_true_eq_false, false_implies, true_and, true_implies]
    omega
  | block => simp [Nat.pos_iff_ne_zero]
  | stream => simp [Nat.pos_iff_ne_zero]

/-- A slot without a translation has no transaction left (R46). -/
theorem transactionsLeft_of_absent {i : SlotId} (l : LaneId) (ht : s.slots[i].translation = none) :
    s.transactionsLeft l i = 0 := by
  simp only [State.transactionsLeft, ht]

/-- Work left is a head that is QUEUED or ACTIVE, without a status, with a transaction not yet started (R46). -/
theorem workLeft_iff (e : EndpointId) : s.workLeft e = true ↔
    ∃ (i : SlotId) (is : List SlotId) (t : Snapshot), s.queues[e] = i :: is ∧
      (s.slots[i].state = .queued ∨ s.slots[i].state = .active) ∧ s.slots[i].status = none ∧
      s.slots[i].translation = some t ∧ 0 < s.transactionsLeft s.endpoints[e].lane i := by
  cases hq : s.queues[e] with
  | nil => simp [State.workLeft, hq]
  | cons i is =>
    simp only [State.workLeft, hq, List.head?_cons, Bool.and_eq_true, Bool.or_eq_true, decide_eq_true_eq]
    constructor
    · rintro ⟨⟨hst, hnone⟩, hleft⟩
      obtain ⟨t, ht⟩ : ∃ t, s.slots[i].translation = some t :=
        Option.ne_none_iff_exists'.mp fun ht => hleft.ne' (transactionsLeft_of_absent _ ht)
      exact ⟨i, is, t, rfl, hst, hnone, ht, hleft⟩
    · rintro ⟨_, _, t, ⟨rfl, rfl⟩, hst, hnone, -, hleft⟩
      exact ⟨⟨hst, hnone⟩, hleft⟩

/-! ### The search (R88, R89) -/

theorem eligible_iff (l : LaneId) (e : EndpointId) : s.eligible l e = true ↔ s.endpoints[e].lane = l ∧
    (s.endpoints[e].state = .active ∨ s.endpoints[e].state = .draining) ∧ s.workLeft e = true := by
  simp only [State.eligible, Bool.and_eq_true, Bool.or_eq_true, decide_eq_true_eq, and_assoc]

theorem eligibleAt_eq_none {l : LaneId} {k : SelectId}
    (h : ∀ x : EndpointId, s.eligible l x = true → s.endpoints[x].select ≠ k) : s.eligibleAt l k = none := by
  refine List.find?_eq_none.mpr fun x _ hx => ?_
  simp only [Bool.and_eq_true, decide_eq_true_eq] at hx
  exact h x hx.2 hx.1

/-- An endpoint that no other eligible one shares its select with is the one found there (R88). -/
theorem eligibleAt_of_only {l : LaneId} {e : EndpointId} (he : s.eligible l e = true)
    (only : ∀ x : EndpointId, s.eligible l x = true → s.endpoints[x].select = s.endpoints[e].select → x = e) :
    s.eligibleAt l s.endpoints[e].select = some e := by
  cases hx : s.eligibleAt l s.endpoints[e].select with
  | none =>
    have unmet := List.find?_eq_none.mp hx e (List.mem_finRange e)
    simp [he] at unmet
  | some x =>
    have found := List.find?_some hx
    simp only [Bool.and_eq_true, decide_eq_true_eq] at found
    rw [only x found.2 found.1]

theorem firstEligible_eq_none {l : LaneId} {ks : List SelectId} (h : ∀ k ∈ ks, s.eligibleAt l k = none) :
    s.firstEligible l ks = none := by
  induction ks with
  | nil => rfl
  | cons k ks ih =>
    rw [State.firstEligible, h k List.mem_cons_self]
    exact ih fun k' hk' => h k' (List.mem_cons_of_mem k hk')

/-- The search passes over the selects at which it finds nothing. -/
theorem firstEligible_append {l : LaneId} {before : List SelectId} (h : ∀ k ∈ before, s.eligibleAt l k = none)
    (ks : List SelectId) : s.firstEligible l (before ++ ks) = s.firstEligible l ks := by
  induction before with
  | nil => rfl
  | cons k before ih =>
    rw [List.cons_append, State.firstEligible, h k List.mem_cons_self]
    exact ih fun k' hk' => h k' (List.mem_cons_of_mem k hk')

/-- Select nextSelect + j is the arbiter's j-th, and those before it are nextSelect + j' for j' below j (R89). -/
theorem searchOrder_split (next : SelectId) (j : Fin 4) :
    searchOrder next = (searchOrder next).take j ++ (next + j) :: (searchOrder next).drop (j + 1) ∧
      ∀ k ∈ (searchOrder next).take j, ∃ j' < j, k = next + j' := by
  revert next j
  decide

theorem arbitrate_eq_none {l : LaneId} (h : ∀ x : EndpointId, s.eligible l x = false) : s.arbitrate l = none :=
  firstEligible_eq_none fun _ _ =>
    eligibleAt_eq_none fun x hx => absurd hx (by rw [h x]; exact Bool.false_ne_true)

/-- The arbiter finds the eligible endpoint whose select comes first from nextSelect on (R89). -/
theorem arbitrate_of_first {l : LaneId} {e : EndpointId} {j : Fin 4} (he : s.eligible l e = true)
    (only : ∀ x : EndpointId, s.eligible l x = true → s.endpoints[x].select = s.endpoints[e].select → x = e)
    (hj : s.endpoints[e].select = s.engines[l].nextSelect + j)
    (first : ∀ (x : EndpointId) (j' : Fin 4), s.eligible l x = true →
      s.endpoints[x].select = s.engines[l].nextSelect + j' → j ≤ j') :
    s.arbitrate l = some (s.endpoints[e].select, e) := by
  obtain ⟨split, earlier⟩ := searchOrder_split s.engines[l].nextSelect j
  have none_earlier : ∀ k ∈ (searchOrder s.engines[l].nextSelect).take j, s.eligibleAt l k = none := by
    intro k hk
    obtain ⟨j', hlt, rfl⟩ := earlier k hk
    exact eligibleAt_eq_none fun x hx hsel => absurd (first x j' hx hsel) (not_le.mpr hlt)
  rw [State.arbitrate, split, firstEligible_append none_earlier, ← hj, State.firstEligible,
    eligibleAt_of_only he only]

/-- Under R27's law no two eligible endpoints of a lane share a select (R88). -/
theorem eq_of_eligible_of_select_eq {l : LaneId} {x y : EndpointId}
    (apart : ∀ x y : EndpointId, x ≠ y → s.endpoints[x].state ≠ .disabled → s.endpoints[y].state ≠ .disabled →
      s.endpoints[x].lane = s.endpoints[y].lane → s.endpoints[x].select ≠ s.endpoints[y].select)
    (hx : s.eligible l x = true) (hy : s.eligible l y = true)
    (hsel : s.endpoints[x].select = s.endpoints[y].select) : x = y := by
  have enabled {z : EndpointId} (hz : s.endpoints[z].state = .active ∨ s.endpoints[z].state = .draining) :
      s.endpoints[z].state ≠ .disabled := by
    rcases hz with hz | hz <;> rw [hz] <;> exact EpState.noConfusion
  obtain ⟨xlane, xstate, -⟩ := (eligible_iff l x).mp hx
  obtain ⟨ylane, ystate, -⟩ := (eligible_iff l y).mp hy
  by_contra hne
  exact apart x y hne (enabled xstate) (enabled ystate) (xlane.trans ylane.symm) hsel

/-! ### GRANT (R67, R89) -/

/-- Outside IDLE it is no event (assumption 2). -/
theorem exec_grant_of_busy {l : LaneId} (hs : s.resetHeld = false) (hg : s.engines[l].engineState ≠ .idle) :
    exec (.grant l) s = .next s :=
  (unlessHeld_of_high hs _).trans (if_pos hg)

/-- A search that finds nothing changes nothing (R89). -/
theorem exec_grant_of_none {l : LaneId} (hs : s.resetHeld = false) (ha : s.arbitrate l = none) :
    exec (.grant l) s = .next s := by
  show unlessHeld s _ = _
  simp only [unlessHeld_of_high hs, ha, ite_self]

/-- The head of the endpoint found becomes ACTIVE and the engine takes the grant (R67, R89). -/
theorem exec_grant_of_found {l : LaneId} {k : SelectId} {e : EndpointId} {i : SlotId} {t : Snapshot}
    (hs : s.resetHeld = false) (hg : s.engines[l].engineState = .idle) (ha : s.arbitrate l = some (k, e))
    (hq : s.queues[e].head? = some i) (ht : s.slots[i].translation = some t) :
    exec (.grant l) s = .next ((s.setSlot i { s.slots[i] with state := .active }).setEngine l
      (s.engines[l].granted e s.endpoints[e] k i s.slots[i] t)) := by
  show unlessHeld s _ = _
  simp only [unlessHeld_of_high hs, hg, ne_eq, not_true_eq_false, if_false, ha, hq, ht]

end Sys2Proof.Machine
end

section
/-! PROOFS. O46: GRANT. -/

namespace Sys2Proof.Proofs

open Sys2Proof.Machine

/-- Settles O46: R27's law leaves one endpoint for the search to find, and the engine's fields follow by the head's kind
and the endpoint's readyMode. -/
theorem grant : Obligations.Grant := by
  refine fun s l hs => ⟨exec_grant_of_busy hs, fun h => exec_grant_of_none hs (arbitrate_eq_none h), eligible_iff l,
    fun x => ?_, fun j e i is t hg apart he hj first hq ht => ?_⟩
  · rw [workLeft_iff]
    refine exists_congr fun i => exists_congr fun is => exists_congr fun t => and_congr_right fun _ =>
      and_congr_right fun _ => and_congr_right fun _ => and_congr_right fun ht => ?_
    simp only [transactionsLeft_pos_iff _ ht, slotInFlight_iff]
  · have found : s.arbitrate l = some (s.endpoints[e].select, e) :=
      arbitrate_of_first he (fun x hx hsel => eq_of_eligible_of_select_eq apart hx he hsel) hj first
    have head : s.queues[e].head? = some i := by rw [hq, List.head?_cons]
    intro d sl g
    rw [exec_grant_of_found hs hg found head ht, Engine.granted]
    cases t.kind <;> cases d.readyMode <;> rfl

end Sys2Proof.Proofs
end

section
/-! PROOFS. What READY_SEEN, GAP_END and TRANSMISSION_END do (R66, R68, R79, R102). -/

namespace Sys2Proof.Machine

variable {s : State} {l : LaneId}

/-- A level on LnRDY takes WAIT_READY into LEAD (R68). -/
theorem exec_readySeen_of_waitReady (hs : s.resetHeld = false) (hg : s.engines[l].engineState = .waitReady) :
    exec (.readySeen l) s = .next (s.setEngine l { s.engines[l] with
      engineState := .shifting, phase := some .lead, unitCount := 0, readyTimer := none }) := by
  show unlessHeld s _ = _
  simp only [unlessHeld_of_high hs, hg]

/-- Elsewhere a level on LnRDY has no effect (R66, R68). -/
theorem exec_readySeen_outside (hs : s.resetHeld = false) (hg : s.engines[l].engineState ≠ .waitReady) :
    exec (.readySeen l) s = .next s := by
  show unlessHeld s _ = _
  rw [unlessHeld_of_high hs]
  split
  · next h => exact absurd h hg
  all_goals rfl

/-- The gap ends in IDLE (R79). -/
theorem exec_gapEnd_of_gap (hs : s.resetHeld = false) (hg : s.engines[l].engineState = .gap) :
    exec (.gapEnd l) s = .next (s.setEngine l { s.engines[l] with
      engineState := .idle, gapTimer := none, currentEndpoint := none }) := by
  show unlessHeld s _ = _
  simp only [unlessHeld_of_high hs, hg]

/-- Outside GAP it is no event (assumption 2). -/
theorem exec_gapEnd_outside (hs : s.resetHeld = false) (hg : s.engines[l].engineState ≠ .gap) :
    exec (.gapEnd l) s = .next s := by
  show unlessHeld s _ = _
  rw [unlessHeld_of_high hs]
  split
  · next h => exact absurd h hg
  all_goals rfl

/-- The end of a transmission frees the transmitter (R102). -/
theorem exec_transmissionEnd (hs : s.resetHeld = false) :
    exec .transmissionEnd s = .next { s with transmitter := .free } :=
  unlessHeld_of_high hs _

end Sys2Proof.Machine
end

section
/-! PROOFS. O47: TRANSMISSION_END, READY_SEEN and GAP_END. -/

namespace Sys2Proof.Proofs

open Sys2Proof.Machine

/-- Settles O47: each of the three by its own state of the engine or of the transmitter. -/
theorem transmissionEndReadySeenGapEnd : Obligations.TransmissionEndReadySeenGapEnd :=
  ⟨fun _ _ hs => ⟨exec_readySeen_of_waitReady hs, exec_readySeen_outside hs, exec_gapEnd_of_gap hs,
    exec_gapEnd_outside hs⟩, fun _ hs => exec_transmissionEnd hs⟩

end Sys2Proof.Proofs
end

section
/-! PROOFS. WORD_COMPLETE once the slot is freed, and the levels of a data word (R72 to R77, R81). -/

namespace Sys2Proof.Machine

/-! ### The end of a word without a slot (R72, R73, R81) -/

section

variable {s : State} {l : LaneId}

/-- Once a link reset has freed the slot a word is neither stored nor counted (R81). -/
theorem wordDone_of_freed {g : Engine} (hi : g.currentSlot = none) (j : Nat) (din : Word) : s.wordDone g j din = s := by
  simp only [State.wordDone, hi]

/-- Once a link reset has freed the slot TRAIL follows the word in flight (R73, R81). -/
theorem afterWord_of_freed {g : Engine} (hi : g.currentSlot = none) (hb : g.between = false) :
    g.afterWord = { g with phase := some .trail, unitCount := 0, unitOut := [], laneOut := g.laneOut ++ g.unitOut } := by
  have running : ({ g.unitDone with unitCount := g.unitCount + 1 } : Engine).between = false := hb
  exact (if_pos (.inr (.inr hi))).trans (enterTrail_of_running running)

/-- In DATA the last input taken completes a word, which unitCount counts (R65, R72). -/
theorem inputTaken_of_data {g : Engine} (hp : g.phase = some .data) :
    g.inputTaken = { g with completing := none, unitCount := g.unitCount + 1 } := by
  rw [Engine.inputTaken, if_pos hp]

/-- In TRAIL unitCount is TRAIL's (assumption 13). -/
theorem inputTaken_of_trail {g : Engine} (hp : g.phase = some .trail) :
    g.inputTaken = { g with completing := none } := by
  have not_data : g.phase ≠ some .data := by simp [hp]
  rw [Engine.inputTaken, if_neg not_data]

/-- The last input of a word completing whose slot is freed: the engine alone changes (R72, R81). -/
theorem exec_wordComplete_of_freed_completing (hs : s.resetHeld = false) (hg : s.engines[l].engineState = .shifting)
    (hn : s.engines[l].completing ≠ none) (hi : s.engines[l].currentSlot = none) (din : Word) :
    exec (.wordComplete l din) s = .next (s.setEngine l s.engines[l].inputTaken) := by
  obtain ⟨n, hn⟩ := Option.ne_none_iff_exists'.mp hn
  rw [execWordComplete_of_completing hs hg hn, wordDone_of_freed hi]

/-- Outside SHIFTING, and with no word that ends or completes, it is no event (assumption 2). -/
theorem exec_wordComplete_no_event (hs : s.resetHeld = false)
    (h : s.engines[l].engineState ≠ .shifting ∨ s.engines[l].completing = none ∧
      (s.engines[l].phase ≠ some .data ∨ s.engines[l].between = true ∨ s.engines[l].late = true)) (din : Word) :
    exec (.wordComplete l din) s = .next s := by
  show unlessHeld s _ = _
  rw [unlessHeld_of_high hs]
  split
  · next n hg hn =>
    obtain ⟨hnone, -⟩ := h.resolve_left (not_not.mpr hg)
    exact absurd (hn.symm.trans hnone) (Option.some_ne_none n)
  · next hg _ =>
    obtain ⟨-, hno⟩ := h.resolve_left (not_not.mpr hg)
    refine if_neg fun ⟨hp, hb, hl⟩ => ?_
    rw [hp, hb, hl] at hno
    simp at hno
  · rfl

end

/-! ### The levels of a data word (R74 to R77) -/

/-- The bits of a word on LnDO, one for each bit period, in the bit order (R74). -/
theorem bitsOut_eq_map (o : BitOrder) (n : Nat) (w : Word) :
    bitsOut o n w = (List.range n).map fun j => w.getLsbD (if o = .lsbFirst then j else n - 1 - j) := by
  cases o <;> rfl

theorem bitsOut_length (o : BitOrder) (n : Nat) (w : Word) : (bitsOut o n w).length = n := by
  rw [bitsOut_eq_map, List.length_map, List.length_range]

theorem bitsOut_getElem? (o : BitOrder) (w : Word) {n j : Nat} (hj : j < n) :
    (bitsOut o n w)[j]? = some (w.getLsbD (if o = .lsbFirst then j else n - 1 - j)) := by
  rw [bitsOut_eq_map, List.getElem?_map, List.getElem?_range hj, Option.map_some]

section

variable {s : State} {g : Engine} {e : EndpointId} (he : g.currentEndpoint = some e)
include he

theorem endpointInHand_of_current : s.endpointInHand g = s.endpoints[e] := by
  simp only [State.endpointInHand, he]

/-- A write word goes out from its beat (R75). -/
theorem dataBits_of_write {sl : Slot} {b : BlockId} {k : Fin 8} {j : Nat} (t : Snapshot) (hd : sl.direction = .write)
    (hb : sl.blocks[(g.beatIndex + j) / 8]? = some b) (hk : k.val = (g.beatIndex + j) % 8) :
    s.dataBits g sl t j = bitsOut s.endpoints[e].bitOrder s.endpoints[e].wordSize.toNat (s.pool[b][k]) := by
  obtain rfl : beatPlace (g.beatIndex + j) = k := Fin.ext hk.symm
  simp only [State.dataBits, hd, endpointInHand_of_current he, readBeat_of_block hb]

/-- In a STREAM read the fill word goes out (R76, R77). -/
theorem dataBits_of_stream {sl : Slot} {t : Snapshot} (hd : sl.direction = .read) (ht : t.kind = .stream) (j : Nat) :
    s.dataBits g sl t j = bitsOut s.endpoints[e].bitOrder s.endpoints[e].wordSize.toNat g.fill := by
  simp only [State.dataBits, hd, ht, endpointInHand_of_current he]

/-- In a REGISTER or BLOCK read LnDO is low (R76). -/
theorem dataBits_of_low {sl : Slot} {t : Snapshot} (hd : sl.direction = .read) (ht : t.kind ≠ .stream) (j : Nat) :
    s.dataBits g sl t j = List.replicate s.endpoints[e].wordSize.toNat false := by
  simp only [State.dataBits, hd, endpointInHand_of_current he]
  split
  · next h => exact absurd h ht
  all_goals rfl

end

end Sys2Proof.Machine
end

section
/-! PROOFS. O51: WORD_COMPLETE after a link reset. -/

namespace Sys2Proof.Proofs

open Sys2Proof.Machine

/-- Settles O51: without a slot the engine alone moves on; the levels by direction and kind. -/
theorem wordCompleteAfterALinkReset : Obligations.WordCompleteAfterALinkReset := by
  refine ⟨fun s l din hs => ⟨fun hg hp hb hl hn hi => ?_, fun hg hp hn hi => ?_, fun hg hp hn hi => ?_,
    fun h => exec_wordComplete_no_event hs h din⟩, fun o n w j => ⟨bitsOut_length o n w, bitsOut_getElem? o w⟩,
    fun s g e sl t j he => ⟨fun b hd hb k hk => dataBits_of_write he t hd hb hk,
      fun hd ht => dataBits_of_stream he hd ht j, fun hd ht => dataBits_of_low he hd ht j⟩⟩
  · rw [execWordComplete_of_inFlight hs hg hn hp hb hl, wordDone_of_freed hi, afterWord_of_freed hi hb]
    rfl
  · rw [exec_wordComplete_of_freed_completing hs hg hn hi, inputTaken_of_trail hp]
    rfl
  · rw [exec_wordComplete_of_freed_completing hs hg hn hi, inputTaken_of_data hp]
    rfl

end Sys2Proof.Proofs
end

section
/-! PROOFS. O59: the laws of attention records, notice queue and management credits. -/

namespace Sys2Proof.Proofs

open Sys2Proof.Machine

/-- A step keeps each law that outlasts every command and does not read the queue of commands that wait: an empty queue
idles. -/
theorem step_keeps {P : State → Prop} (hP : OutlastsLink P)
    (hpending : ∀ (u : State) (rest : List Instr), P u → P { u with pending := rest }) {s t : State}
    (ht : step s = .next t) (hs : P s) : P t := by
  unfold step at ht
  split at ht
  · exact Host.Outcome.next.inj ht ▸ hs
  · next c rest _ => exact hP.exec_keeps c (hpending s rest hs) t ht

/-- Settles O59: each of the three laws outlasts every command. -/
theorem attentionNoticeAndManagementLawsKept : Obligations.AttentionNoticeAndManagementLawsKept := fun _ _ ht =>
  ⟨step_keeps attnLaw_outlasts (fun _ _ hu => hu) ht, step_keeps noticeLaw_outlasts (fun _ _ hu => hu) ht,
    step_keeps managementLaw_outlasts (fun _ _ hu => hu) ht⟩

end Sys2Proof.Proofs
end

section
/-! PROOFS. The sequenced sources besides the slots (R103, R104, R121): when a CFG-REPLY, a notice or an ATTN is the
choice, and what its command then does. -/

namespace Sys2Proof.Machine

variable {s : State}

/-- The first endpoint whose record is PENDING with no fence is the one whose ATTN is sent (R121). -/
theorem attnCandidate_of_first {e : EndpointId} (hpending : s.attn[e].state = .pending)
    (hfence : s.attn[e].fence = none)
    (hfirst : ∀ x : EndpointId, x < e → ¬ (s.attn[x].state = .pending ∧ s.attn[x].fence = none)) :
    s.attnCandidate = some e :=
  find?_finRange_of_first (by simp only [hpending, hfence, decide_true, Bool.and_self]) fun x hx => by
    rw [← Bool.decide_and]
    exact decide_eq_false (hfirst x hx)

section
variable (hs : s.SendsSequenced) (hplace : s.link.replayBuffer.length < Config.replayPlaces)
include hs hplace

/-- A CFG-REPLY stands before every other sequenced source (R103). -/
theorem choice_of_reply {r : CfgReply} {rs : List CfgReply} (hr : s.replies = r :: rs) :
    s.choice = some (.cfgReply r) := by
  rw [choice_of_sendsSequenced hs, State.sequencedCandidate]
  simp only [if_neg (not_le.mpr hplace), hr]

/-- A notice stands before every sequenced source but a CFG-REPLY (R103). -/
theorem choice_of_notice {n : Notice} {ns : List Notice} (hr : s.replies = []) (hn : s.notices = n :: ns) :
    s.choice = some (.notice n) := by
  rw [choice_of_sendsSequenced hs, State.sequencedCandidate]
  simp only [if_neg (not_le.mpr hplace), hr, hn]

/-- An ATTN stands behind a CFG-REPLY and a notice (R103). -/
theorem choice_of_attn {e : EndpointId} (hr : s.replies = []) (hn : s.notices = [])
    (he : s.attnCandidate = some e) : s.choice = some (.attn e) := by
  rw [choice_of_sendsSequenced hs, State.sequencedCandidate]
  simp only [if_neg (not_le.mpr hplace), hr, hn, he]

end

/-- CFG_REPLY sends the reply that is the choice (R166). -/
theorem exec_cfgReply_of_choice {r : CfgReply} (hs : s.resetHeld = false) (hc : s.choice = some (.cfgReply r)) :
    exec .cfgReply s = .next (s.sendCfgReply r) :=
  onChoice_of_chosen hs hc rfl

/-- NOTICE sends the notice that is the choice (R114). -/
theorem exec_notice_of_choice {n : Notice} (hs : s.resetHeld = false) (hc : s.choice = some (.notice n)) :
    exec .notice s = .next (s.sendNotice n) :=
  onChoice_of_chosen hs hc rfl

/-- ATTN sends the attention that is the choice (R121). -/
theorem exec_attn_of_choice {e : EndpointId} (hs : s.resetHeld = false) (hc : s.choice = some (.attn e)) :
    exec .attn s = .next (s.sendAttn e) :=
  onChoice_of_chosen hs hc rfl

end Sys2Proof.Machine
end

section
/-! PROOFS. O43: CFG-REPLY, NOTICE and ATTN. -/

namespace Sys2Proof.Proofs

open Sys2Proof.Machine

/-- Settles O43: the entry to the replay buffer as it is defined; then each packet is the arbiter's choice, and leaves
its source. -/
theorem repliesNoticesAttentionsSent : Obligations.RepliesNoticesAttentionsSent := by
  refine ⟨fun s body => enterReplayBuffer_eq s body, fun s hs hplace => ⟨fun r rs hr => ?_, fun n ns hr hn => ?_,
    fun e hr hn hpending hfence hfirst => ?_⟩⟩
  · rw [exec_cfgReply_of_choice hs.1 (choice_of_reply hs hplace hr), State.sendCfgReply, hr, List.tail_cons]
  · rw [exec_notice_of_choice hs.1 (choice_of_notice hs hplace hr hn), State.sendNotice, hn, List.tail_cons]
  · have first := attnCandidate_of_first hpending hfence hfirst
    rw [exec_attn_of_choice hs.1 (choice_of_attn hs hplace hr hn first)]
    rfl

end Sys2Proof.Proofs
end

section
/-! PROOFS. The packet commands together (R103, R104): each sends the choice or does nothing, and what sending makes of
the replay buffer's length. -/

namespace Sys2Proof.Machine

variable {s : State}

/-- The ten commands that send a packet. -/
def packetCommands : List Instr :=
  [.ack, .nak, .syncAck, .syncRequest, .resend, .cfgReply, .notice, .attn, .readData, .writeDone]

/-- The command that sends a candidate. -/
def State.commandFor (s : State) : Candidate → Instr
  | .syncAck => .syncAck
  | .nak => .nak
  | .ack => .ack
  | .syncRequest => .syncRequest
  | .resend _ => .resend
  | .cfgReply _ => .cfgReply
  | .notice _ => .notice
  | .attn _ => .attn
  | .immediate i => replyCommand s.slots[i].direction
  | .completion _ i => replyCommand s.slots[i].direction

/-- The state once a candidate has been sent. -/
def State.afterSending (s : State) : Candidate → State
  | .syncAck => s.sendSyncAck
  | .nak => s.sendNak
  | .ack => s.sendAck
  | .syncRequest => s.sendSyncRequest
  | .resend p => s.resendPacket p
  | .cfgReply r => s.sendCfgReply r
  | .notice n => s.sendNotice n
  | .attn e => s.sendAttn e
  | .immediate i => s.sendImmediate i
  | .completion e i => s.sendCompletion e i

/-- A slot is answered by the command of its direction. -/
theorem commandFor_of_sendSlotReply {d : Direction} {c : Candidate} {t : State} (h : s.sendSlotReply d c = some t) :
    s.commandFor c = replyCommand d ∧ t = s.afterSending c := by
  unfold State.sendSlotReply at h
  split at h
  · obtain ⟨rfl, ht⟩ := Option.ite_none_right_eq_some.mp h
    exact ⟨rfl, (Option.some.inj ht).symm⟩
  · obtain ⟨rfl, ht⟩ := Option.ite_none_right_eq_some.mp h
    exact ⟨rfl, (Option.some.inj ht).symm⟩
  · cases h

/-- A packet command is the sending of a choice, of those candidates that it sends (R103). -/
theorem exec_packetCommand {c : Instr} (hc : c ∈ packetCommands) (s : State) :
    ∃ act : Candidate → Option State, exec c s = onChoice s act ∧
      ∀ x t, act x = some t → s.commandFor x = c ∧ t = s.afterSending x := by
  cases c with
  | ack | nak | syncAck | syncRequest | resend | cfgReply | notice | attn =>
    refine ⟨_, rfl, fun x t ht => ?_⟩
    cases x <;> cases ht
    exact ⟨rfl, rfl⟩
  | readData | writeDone => exact ⟨_, rfl, fun _ _ => commandFor_of_sendSlotReply⟩
  | _ => simp [packetCommands] at hc

/-- All that a packet command can do: nothing, or send the arbiter's choice, when it is the command that sends it
(R103). -/
theorem exec_packetCommand_cases {c : Instr} {t : State} (hc : c ∈ packetCommands) (h : exec c s = .next t) :
    t = s ∨ ∃ x : Candidate, s.choice = some x ∧ s.commandFor x = c ∧ t = s.afterSending x := by
  obtain ⟨act, hexec, hact⟩ := exec_packetCommand hc s
  rcases onChoice_cases (hexec ▸ h) with rfl | ⟨x, -, -, hx, hsent⟩
  · exact .inl rfl
  · exact .inr ⟨x, hx, hact x t hsent⟩

/-- A packet command that changes the state sends the arbiter's choice (R103). -/
theorem choice_of_exec_ne {c : Instr} (hc : c ∈ packetCommands) (h : exec c s ≠ .next s) :
    ∃ x : Candidate, s.choice = some x ∧ s.commandFor x = c := by
  obtain ⟨act, hexec, -⟩ := exec_packetCommand hc s
  obtain ⟨t, ht⟩ := completes_onChoice s act
  rcases exec_packetCommand_cases hc (hexec.trans ht) with rfl | ⟨x, hx, hcmd, -⟩
  · exact absurd (hexec.trans ht) h
  · exact ⟨x, hx, hcmd⟩

/-- A grant leaves the replay buffer (R155). -/
@[simp] theorem grantCredits_replayBuffer (s : State) (a b c : Nat) :
    (s.grantCredits a b c).link.replayBuffer = s.link.replayBuffer := by
  rw [grantCredits_frame]

/-- A new packet takes one place of the replay buffer (R141). -/
@[simp] theorem entered_replayBuffer_length (k : LinkPort) (body : SeqBody) :
    (k.entered body).replayBuffer.length = k.replayBuffer.length + 1 :=
  List.length_append

/-- What the arbiter's choice, sent, makes of the replay buffer: no packet more, or one more where fewer than 16 stand
(R103, R104). -/
theorem replayBuffer_length_afterSending {x : Candidate} (h : s.choice = some x) :
    (s.afterSending x).link.replayBuffer.length = s.link.replayBuffer.length ∨
      (s.afterSending x).link.replayBuffer.length = s.link.replayBuffer.length + 1 ∧
        s.link.replayBuffer.length < Config.replayPlaces := by
  have offered := offers_of_choice h
  cases x with
  | syncAck | nak | ack | syncRequest | resend => exact .inl rfl
  | cfgReply r => exact .inr ⟨by simp [State.afterSending, sendCfgReply_eq], offered.1.place⟩
  | notice n => exact .inr ⟨by simp [State.afterSending, sendNotice_eq], offered.1.place⟩
  | attn e => exact .inr ⟨by simp [State.afterSending, sendAttn_eq], offered.1.place⟩
  | immediate i => exact .inr ⟨by simp [State.afterSending, sendImmediate_eq], offered.1.place⟩
  | completion e i => exact .inr ⟨by simp [State.afterSending, sendCompletion_eq], offered.1.place⟩

/-- A candidate that answers a slot (R103, candidates 6 and 7). -/
def Candidate.AnswersSlot : Candidate → Prop
  | .immediate _ => True
  | .completion _ _ => True
  | _ => False

/-- No control packet answers a slot. -/
theorem not_answersSlot_of_dueCandidate {k : LinkPort} {x : Candidate} (h : k.dueCandidate = some x) :
    ¬ x.AnswersSlot := by
  unfold LinkPort.dueCandidate at h
  split_ifs at h <;> cases h <;> exact id

/-- A slot is answered only below 13 packets (R104). -/
theorem below_of_sequencedCandidate {x : Candidate} (hx : x.AnswersSlot) (h : s.sequencedCandidate = some x) :
    s.link.replayBuffer.length < Config.dataReplyPlaces := by
  unfold State.sequencedCandidate at h
  dsimp only at h
  split at h
  · cases h
  split at h
  · cases h; exact hx.elim
  split at h
  · cases h; exact hx.elim
  split at h
  · cases h; exact hx.elim
  split at h
  · cases h
  · next hplaces => exact not_le.mp hplaces

/-- The arbiter chooses a slot to answer only below 13 packets (R104). -/
theorem below_of_choice {x : Candidate} (hx : x.AnswersSlot) (h : s.choice = some x) :
    s.link.replayBuffer.length < Config.dataReplyPlaces := by
  unfold State.choice at h
  split at h
  · cases h
  split at h
  · next hdue => cases h; exact absurd hx (not_answersSlot_of_dueCandidate hdue)
  split at h
  · obtain ⟨p, -, rfl⟩ := Option.map_eq_some_iff.mp h
    exact hx.elim
  split at h
  · cases h
  · exact below_of_sequencedCandidate hx h

/-- READ_DATA and WRITE_DONE send only answers to slots. -/
theorem answersSlot_of_commandFor {x : Candidate} (h : s.commandFor x = .readData ∨ s.commandFor x = .writeDone) :
    x.AnswersSlot := by
  cases x with
  | immediate | completion => trivial
  | syncAck | nak | ack | syncRequest | resend | cfgReply | notice | attn => simp [State.commandFor] at h

end Sys2Proof.Machine
end

section
/-! PROOFS. O45: one packet at a choice. -/

namespace Sys2Proof.Proofs

open Sys2Proof.Machine

/-- Settles O45: a packet command that changes the state is the one that sends the arbiter's choice, and the choice keeps
to the places of the replay buffer. -/
theorem onePacketAtAChoice : Obligations.OnePacketAtAChoice := by
  refine ⟨fun s c d hc hd hcs hds => ?_, fun s t c hc h hne => ?_⟩
  · obtain ⟨x, hx, rfl⟩ := choice_of_exec_ne hc hcs
    obtain ⟨y, hy, rfl⟩ := choice_of_exec_ne hd hds
    rw [Option.some.inj (hx.symm.trans hy)]
  · obtain ⟨x, hx, hcmd, rfl⟩ := (exec_packetCommand_cases hc h).resolve_left hne
    refine ⟨fun hslot => below_of_choice (answersSlot_of_commandFor (hcmd ▸ hslot)) hx, ?_⟩
    rcases replayBuffer_length_afterSending hx with hlength | ⟨hlength, hplace⟩
    · exact .inl hlength.le
    · exact .inr ⟨hlength, hlength ▸ hplace⟩

end Sys2Proof.Proofs
end

section
/-! PROOFS. The creation of a notice (R113). -/

namespace Sys2Proof.Machine

/-- The newest notice is the one marked. -/
theorem markMore_concat (front : List Notice) (last : Notice) :
    markMore (front ++ [last]) = front ++ [{ last with more := true }] := by
  induction front with
  | nil => rfl
  | cons n front ih =>
    rw [List.cons_append, markMore, ih, List.cons_append]
    exact fun h => List.append_ne_nil_of_right_ne_nil front (List.cons_ne_nil last []) h

/-- Below 8 notices a new one is appended (R113). -/
theorem addNotice_of_place {s : State} (h : s.notices.length < Config.noticePlaces) (n : Notice) :
    s.addNotice n = { s with notices := s.notices ++ [n] } :=
  if_pos h

/-- At 8 notices a new one is lost and the newest is marked (R113). -/
theorem addNotice_of_full {s : State} {front : List Notice} {last : Notice} (h : s.notices = front ++ [last])
    (hfull : Config.noticePlaces ≤ s.notices.length) (n : Notice) :
    s.addNotice n = { s with notices := front ++ [{ last with more := true }] } := by
  rw [State.addNotice, if_neg (not_lt.mpr hfull), h, markMore_concat]

end Sys2Proof.Machine
end

section
/-! PROOFS. O22: the creation of a notice. -/

namespace Sys2Proof.Proofs

open Sys2Proof.Machine

/-- Settles O22: a creation by the length of the queue; at a full queue, after a removal and before it. -/
theorem noticeCreation : Obligations.NoticeCreation := by
  refine ⟨fun s n h => addNotice_of_place h n, fun s n last front h hfront => ?_, fun s n h => ?_,
    fun s n head last middle h hmiddle => ?_, fun _ _ _ _ _ _ => ⟨rfl, rfl, rfl⟩⟩
  · refine addNotice_of_full h ?_ n
    simp [h, hfront, Config.noticePlaces]
  · refine addNotice_of_place (s := { s with notices := s.notices.tail }) ?_ n
    simp [h, Config.noticePlaces]
  · have full : Config.noticePlaces ≤ s.notices.length := by simp [h, hmiddle, Config.noticePlaces]
    rw [addNotice_of_full (front := head :: middle) h full]
    rfl

end Sys2Proof.Proofs
end

section
/-! PROOFS. The Attention Unit: the conditions a sample meets (R116, R117), and each record after a sample (R118, R122)
and after an acknowledgement (R123). -/

namespace Sys2Proof.Machine

variable {s : State} {e : EndpointId}

/-! ### Conditions on a sample (R116, R117) -/

theorem levelSeen_iff (s : State) (levels : BitVec 16) (e : EndpointId) :
    s.levelSeen levels e = true ↔ s.LevelMet e levels := by
  unfold State.levelSeen State.LevelMet
  cases s.endpoints[e].attnInput with
  | none => simp
  | some n => cases s.endpoints[e].attnSense <;> simp [AttnSense.levelHolds]

/-- An edge needs a sample before this one (R116). -/
theorem edgeSeen_iff (s : State) (levels : BitVec 16) (e : EndpointId) :
    s.edgeSeen levels e = true ↔ s.EdgeMet e levels := by
  unfold State.edgeSeen State.EdgeMet
  cases s.endpoints[e].attnInput with
  | none => simp
  | some n =>
    cases s.lastSample with
    | none => simp
    | some before => cases s.endpoints[e].attnSense <;> simp [AttnSense.edgeHolds]

/-! ### A record after a sample -/

/-- A repeats count at 255 stays at 255 (R122). -/
theorem repeatsUp_eq (r : BitVec 8) : repeatsUp r = if r = 255 then 255 else r + 1 :=
  ite_congr rfl id fun _ => rfl

/-- A DISABLED endpoint neither takes nor counts (R118, R122). -/
theorem sampledRecord_of_disabled (h : s.endpoints[e].state = .disabled) (levels : BitVec 16) :
    s.sampledRecord levels e = s.attn[e] :=
  if_pos h

/-- An IDLE record takes an attention when the sense condition holds (R118). -/
theorem sampledRecord_of_idle (hst : s.endpoints[e].state ≠ .disabled) (hidle : s.attn[e].state = .idle)
    (levels : BitVec 16) :
    s.sampledRecord levels e = if s.levelSeen levels e || s.edgeSeen levels e then s.takenRecord e else s.attn[e] := by
  rw [State.sampledRecord, if_neg hst, hidle]

/-- A PENDING or SENT record counts an edge (R122). -/
theorem sampledRecord_of_not_idle (hst : s.endpoints[e].state ≠ .disabled) (hbusy : s.attn[e].state ≠ .idle)
    (levels : BitVec 16) :
    s.sampledRecord levels e =
      if s.edgeSeen levels e then { s.attn[e] with repeats := repeatsUp s.attn[e].repeats } else s.attn[e] := by
  rw [State.sampledRecord, if_neg hst]
  dsimp only
  split
  · next hidle => exact absurd hidle hbusy
  · rfl
  · rfl

/-- Outside a device reset the sample is judged for every endpoint and kept (R116). -/
theorem execAttentionSample_of_high (h : s.resetHeld = false) (levels : BitVec 16) :
    exec (.attentionSample levels) s =
      .next { s with attn := tabulate fun e => s.sampledRecord levels e, lastSample := some levels } :=
  unlessHeld_of_high h _

/-! ### A record after an acknowledgement that names it (R123) -/

theorem acknowledgedRecord_of_not_sent (h : s.attn[e].state ≠ .sent) : s.acknowledgedRecord e = s.attn[e] :=
  if_neg h

/-- A level that holds as the record leaves SENT is taken at once (R118, R123). -/
theorem acknowledgedRecord_of_level (hsent : s.attn[e].state = .sent) (hst : s.endpoints[e].state ≠ .disabled)
    (hlevel : s.LevelNow e) : s.acknowledgedRecord e = s.takenRecord e := by
  rw [State.acknowledgedRecord, if_pos hsent, if_pos ⟨hst, (levelHolds_iff s e).mpr hlevel⟩]

theorem acknowledgedRecord_of_no_level (hsent : s.attn[e].state = .sent)
    (h : s.endpoints[e].state = .disabled ∨ ¬ s.LevelNow e) : s.acknowledgedRecord e = .idle := by
  have not_taken : ¬ (s.endpoints[e].state ≠ .disabled ∧ s.levelHolds e = true) := by
    rwa [levelHolds_iff, not_and_or, not_not]
  rw [State.acknowledgedRecord, if_pos hsent, if_neg not_taken]

/-! ### The acknowledge write (R123, R162, R164) -/

/-- The endpoints' records after the acknowledge write `r`: the named ones are acted on (R123). -/
def State.acknowledged (s : State) (r : CfgRequest) : Vector AttnRecord 16 :=
  tabulate fun e => if r.names e then s.acknowledgedRecord e else s.attn[e]

theorem acknowledged_of_named {r : CfgRequest} (h : r.word0.getLsbD e.val = true) :
    (s.acknowledged r)[e] = s.acknowledgedRecord e :=
  (tabulate_get _ e).trans (if_pos h)

theorem acknowledged_of_kept {r : CfgRequest} (h : r.word0.getLsbD e.val = false ∨ s.attn[e].state ≠ .sent) :
    (s.acknowledged r)[e] = s.attn[e] := by
  rw [State.acknowledged, tabulate_get]
  split
  · next hnamed => exact acknowledgedRecord_of_not_sent (h.resolve_left (Bool.not_eq_false _ ▸ hnamed))
  · rfl

theorem acknowledgeAct_of_normal {r : CfgRequest} (h : r.cls = .normal) (s : State) :
    acknowledgeAct r s = (plainReply r .denied 0, s) :=
  if_pos h

theorem acknowledgeAct_of_privileged {r : CfgRequest} (h : r.cls = .privileged) (s : State) :
    acknowledgeAct r s = (plainReply r .ok 0, { s with attn := s.acknowledged r }) :=
  if_neg (by rw [h]; exact ReqClass.noConfusion)

/-- The acknowledge write, taken: what its act makes of the state, with its reply in the reply list (R162). -/
theorem execAttentionAcknowledge_of_taken {r : CfgRequest} {rest : List CfgRequest} (ht : s.TakesCfg r rest)
    (hd : r.direction = .write) (hlength : r.length = 1) (hstart : r.start = 0x00C#10) :
    exec .attentionAcknowledge s =
      .next ((acknowledgeAct r { s with cfgHanded := rest }).2.addReply
        (acknowledgeAct r { s with cfgHanded := rest }).1) := by
  obtain ⟨hs, hr, hl⟩ := ht
  have single : r.isSingleWrite acknowledgeWord = true := by
    simp [CfgRequest.isSingleWrite, acknowledgeWord, hd, hlength, hstart]
  exact (unlessHeld_of_high hs _).trans (takeCfg_of_taken hr single hl)

end Sys2Proof.Machine
end

section
/-! PROOFS. O28 and O54: the commands of the Attention Unit. -/

namespace Sys2Proof.Proofs

open Sys2Proof.Machine

/-- Settles O28: by the class of the write, then for each record by whether it is named and SENT. -/
theorem attentionAcknowledge : Obligations.AttentionAcknowledge := by
  intro s r rest ht hd hlength hstart
  rw [execAttentionAcknowledge_of_taken ht hd hlength hstart]
  refine ⟨fun hn => ?_, fun hp => ⟨s.acknowledged r, ?_, fun e => ⟨acknowledged_of_kept, fun hnamed hsent => ?_⟩⟩⟩
  · rw [acknowledgeAct_of_normal hn]
    rfl
  · rw [acknowledgeAct_of_privileged hp]
    rfl
  · rw [acknowledged_of_named hnamed]
    exact ⟨acknowledgedRecord_of_level hsent, acknowledgedRecord_of_no_level hsent⟩

/-- Settles O54: each record by its endpoint's state and its own, and by the conditions that the sample meets. -/
theorem attentionSample : Obligations.AttentionSample := by
  refine fun s levels hs => ⟨_, execAttentionSample_of_high hs levels, fun e => ?_⟩
  rw [tabulate_get, ← levelSeen_iff, ← edgeSeen_iff]
  refine ⟨fun hdis => sampledRecord_of_disabled hdis levels, fun hst hidle => ?_, fun hst hbusy => ?_⟩
  · rw [sampledRecord_of_idle hst hidle, ← Bool.or_eq_true]
    exact ⟨fun hseen => if_pos hseen, fun hlevel hedge => if_neg (by simp [hlevel, hedge])⟩
  · rw [sampledRecord_of_not_idle hst hbusy, repeatsUp_eq]
    exact ⟨fun hedge => if_pos hedge, fun hedge => if_neg hedge⟩

end Sys2Proof.Proofs
end

section
/-! PROOFS. O57: the Transfer Link's law. -/

namespace Sys2Proof.Proofs

open Sys2Proof.Machine

/-- Settles O57: an empty queue idles, and every command keeps the law. -/
theorem linkLawKept : Obligations.LinkLawKept := by
  intro s t hs ht
  unfold step at ht
  split at ht
  · exact Host.Outcome.next.inj ht ▸ hs
  · next c rest _ => exact exec_linkLaw c (linkLaw_congr (t := { s with pending := rest }) hs rfl rfl rfl) t ht

end Sys2Proof.Proofs
end

section
/-! PROOFS. Bytes and words (chapter 11), and good frames (R129): a frame is good exactly when its bytes are those of a
packet's words and of their check value. -/

namespace Sys2Proof.Machine

/-- Fields that stand side by side, each at its own place. -/
theorem hasField_append_iff {k a m n : Nat} {w : BitVec k} {x : BitVec m} {y : BitVec n} :
    HasField w a (x ++ y) ↔ HasField w (a + n) x ∧ HasField w a y := by
  refine ⟨fun h => ?_, fun ⟨hx, hy⟩ => hasField_append hx hy⟩
  unfold HasField at *
  rw [← BitVec.extractLsb'_append_extractLsb'_eq_extractLsb' rfl] at h
  have high := congrArg (BitVec.extractLsb' n m) h
  have low := congrArg (BitVec.extractLsb' 0 n) h
  rw [BitVec.extractLsb'_append_eq_left, BitVec.extractLsb'_append_eq_left] at high
  rw [BitVec.extractLsb'_append_eq_right, BitVec.extractLsb'_append_eq_right] at low
  exact ⟨high, low⟩

end Sys2Proof.Machine

namespace Sys2Proof

open Sys2Proof.Machine

/-! ### Words and their bytes (chapter 11) -/

/-- The four bytes of a word carry it. -/
theorem wordOfBytes_extractLsb' (w : Word) :
    wordOfBytes (w.extractLsb' 24 8) (w.extractLsb' 16 8) (w.extractLsb' 8 8) (w.extractLsb' 0 8) = w := by
  have fields : HasField w 0 (w.extractLsb' 24 8 ++ w.extractLsb' 16 8 ++ w.extractLsb' 8 8 ++ w.extractLsb' 0 8) :=
    hasField_append (hasField_append (hasField_append rfl rfl) rfl) rfl
  exact (eq_of_hasField fields).symm

/-- The bytes of the word that four bytes carry. -/
theorem bytesOfWord_wordOfBytes (a b c d : Byte) : bytesOfWord (wordOfBytes a b c d) = [a, b, c, d] := by
  have fields : HasField (wordOfBytes a b c d) 0 (a ++ b ++ c ++ d) := BitVec.extractLsb'_eq_self
  simp only [hasField_append_iff] at fields
  obtain ⟨⟨⟨ha, hb⟩, hc⟩, hd⟩ := fields
  simp only [bytesOfWord, List.cons.injEq, and_true]
  exact ⟨ha, hb, hc, hd⟩

@[simp] theorem bytesOfWord_length (w : Word) : (bytesOfWord w).length = 4 := rfl

@[simp] theorem bytesOfWords_length (ws : List Word) : (bytesOfWords ws).length = 4 * ws.length := by
  induction ws with
  | nil => rfl
  | cons w ws ih =>
    rw [bytesOfWords, List.length_append, ih, bytesOfWord_length, List.length_cons]
    omega

theorem bytesOfWords_append (vs ws : List Word) :
    bytesOfWords (vs ++ ws) = bytesOfWords vs ++ bytesOfWords ws := by
  induction vs with
  | nil => rfl
  | cons v vs ih => rw [List.cons_append, bytesOfWords, bytesOfWords, ih, List.append_assoc]

/-- A word behind a list of words, as bytes. -/
theorem bytesOfWords_concat (ws : List Word) (c : Word) :
    bytesOfWords (ws ++ [c]) = bytesOfWords ws ++ bytesOfWord c := by
  rw [bytesOfWords_append, bytesOfWords, bytesOfWords, List.append_nil]

/-- Bytes carry the words whose bytes they are, and no others. -/
theorem wordsOfBytes_eq_some_iff (bs : List Byte) (ws : List Word) :
    wordsOfBytes bs = some ws ↔ bs = bytesOfWords ws := by
  induction bs using wordsOfBytes.induct generalizing ws with
  | case1 => cases ws <;> simp [wordsOfBytes, bytesOfWords, bytesOfWord]
  | case2 a b c d t ih =>
    cases ws with
    | nil => simp [wordsOfBytes, bytesOfWords]
    | cons w ws =>
      simp only [wordsOfBytes, Option.map_eq_some_iff, ih, List.cons.injEq]
      constructor
      · rintro ⟨_, rfl, rfl, rfl⟩
        rw [bytesOfWords, bytesOfWord_wordOfBytes]
        rfl
      · intro h
        obtain ⟨rfl, rfl, rfl, rfl, rfl⟩ : a = _ ∧ b = _ ∧ c = _ ∧ d = _ ∧ t = _ := by
          simpa [bytesOfWords, bytesOfWord] using h
        exact ⟨ws, rfl, wordOfBytes_extractLsb' w, rfl⟩
  | case3 bs hnil hfour =>
    rw [wordsOfBytes.eq_3 bs hnil hfour]
    cases ws with
    | nil => simpa [bytesOfWords] using hnil
    | cons w ws => simpa [bytesOfWords, bytesOfWord] using hfour _ _ _ _ _

/-- Words are known by their bytes. -/
theorem bytesOfWords_injective {vs ws : List Word} (h : bytesOfWords vs = bytesOfWords ws) : vs = ws :=
  Option.some.inj (((wordsOfBytes_eq_some_iff _ vs).mpr rfl).symm.trans ((wordsOfBytes_eq_some_iff _ ws).mpr h))

/-! ### Good frames (R129) -/

theorem frameBytes_eq (ws : List Word) : frameBytes ws = bytesOfWords (ws ++ [checkValue (bytesOfWords ws)]) :=
  (bytesOfWords_concat ws _).symm

/-- A header word, what follows it and the check value over both are a packet; other words are none (R129). -/
theorem packetOfWords_eq_some_iff (ws : List Word) (p : HostPacket) :
    packetOfWords ws = some p ↔ ws = p.header :: p.rest ++ [checkValue (bytesOfWords (p.header :: p.rest))] := by
  obtain ⟨header, rest⟩ := p
  cases ws with
  | nil => simp [packetOfWords]
  | cons h t =>
    rcases List.eq_nil_or_concat' t with rfl | ⟨front, c, rfl⟩
    · simp [packetOfWords]
    · simp only [packetOfWords, List.getLast?_concat, List.dropLast_concat, Option.ite_none_right_eq_some,
        Option.some.injEq, HostPacket.mk.injEq, List.cons_append, List.cons.injEq]
      constructor
      · rintro ⟨rfl, rfl, rfl⟩
        exact ⟨rfl, rfl⟩
      · rintro ⟨rfl, h⟩
        obtain ⟨rfl, hc⟩ := List.append_inj' h rfl
        exact ⟨(List.cons.inj hc).1.symm, rfl, rfl⟩

/-- The frames that hold packet `p`: no framing error, no more words than the largest packet, and the bytes of `p`'s
words and of their check value (R129). -/
theorem packet?_eq_some_iff (f : Frame) (p : HostPacket) : f.packet? = some p ↔
    f.framingError = false ∧ p.rest.length + 2 ≤ Config.largestPacketWords ∧
      f.bytes = frameBytes (p.header :: p.rest) := by
  have words : (∃ ws, wordsOfBytes f.bytes = some ws ∧ ws.length ≤ Config.largestPacketWords ∧
      packetOfWords ws = some p) ↔
      p.rest.length + 2 ≤ Config.largestPacketWords ∧ f.bytes = frameBytes (p.header :: p.rest) := by
    simp only [wordsOfBytes_eq_some_iff, packetOfWords_eq_some_iff, frameBytes_eq]
    constructor
    · rintro ⟨_, hbytes, hlength, rfl⟩
      exact ⟨by simpa [Nat.succ_le_iff] using hlength, hbytes⟩
    · rintro ⟨hlength, hbytes⟩
      exact ⟨_, hbytes, by simpa [Nat.succ_le_iff] using hlength, rfl⟩
  rw [← words, Frame.packet?]
  cases f.framingError with
  | true => simp
  | false => cases wordsOfBytes f.bytes <;> simp

/-- A frame is bad when it holds no packet. -/
theorem arrival_eq_bad_iff (f : Frame) : f.arrival = .bad ↔ f.packet? = none := by
  unfold Frame.arrival
  split
  · next h => simp [h]
  · next p h => split_ifs <;> simp [h]

/-- A packet of at most 67 words with its check value is the one its frame holds. -/
theorem packet?_ofWords {header : Word} {rest : List Word} (h : rest.length ≤ 65) :
    (Frame.ofWords (header :: rest)).packet? = some ⟨header, rest⟩ :=
  (packet?_eq_some_iff _ _).mpr ⟨rfl, Nat.add_le_add_right h 2, rfl⟩

/-- A frame with a fault that no good frame has is bad (R129). -/
theorem arrival_bad_of_not_good {f : Frame}
    (h : ∀ p : HostPacket, f.framingError = false → p.rest.length + 2 ≤ Config.largestPacketWords →
      f.bytes ≠ frameBytes (p.header :: p.rest)) : f.arrival = .bad := by
  rw [arrival_eq_bad_iff, Option.eq_none_iff_forall_ne_some]
  intro p hp
  obtain ⟨hflag, hlength, hbytes⟩ := (packet?_eq_some_iff f p).mp hp
  exact h p hflag hlength hbytes

/-- The bytes of a good frame: four for each word, the check value among them. -/
theorem frameBytes_length (header : Word) (rest : List Word) :
    (frameBytes (header :: rest)).length = 4 * (rest.length + 2) := by
  rw [frameBytes_eq, bytesOfWords_length]
  simp

end Sys2Proof
end

section
/-! PROOFS. O7: bad frames. -/

namespace Sys2Proof.Proofs

/-- Settles O7: a good frame has no framing error, two whole words at least and 67 at most, and the check value
computed. -/
theorem badFrames : Obligations.BadFrames := by
  refine ⟨fun f hflag => arrival_bad_of_not_good fun p hno _ _ => ?_,
    fun f hshort => arrival_bad_of_not_good fun p _ _ hbytes => ?_,
    fun f hlong => arrival_bad_of_not_good fun p _ hlength hbytes => ?_,
    fun f hcut => arrival_bad_of_not_good fun p _ _ hbytes => ?_,
    fun ws c hc => arrival_bad_of_not_good fun p _ _ hbytes => hc ?_⟩
  · exact Bool.noConfusion (hflag.symm.trans hno)
  · rw [hbytes, frameBytes_length] at hshort
    omega
  · rw [hbytes, frameBytes_length] at hlong
    simp only [Config.largestPacketWords] at hlength
    omega
  · rw [hbytes, frameBytes_length] at hcut
    omega
  · rw [← bytesOfWords_concat, frameBytes_eq] at hbytes
    obtain ⟨rfl, hlast⟩ := List.append_inj' (bytesOfWords_injective hbytes) rfl
    exact (List.cons.inj hlast).1

end Sys2Proof.Proofs
end

section
/-! PROOFS. The fields of a header word (chapter 11.1), how an arriving packet is sorted (R128), and the request of a
sequenced packet (R136). -/

namespace Sys2Proof

open Sys2Proof.Machine

variable {p : HostPacket}

/-! ### Header words (chapter 11.1) -/

/-- The fields of a request's header word, whatever its reserved bits hold (R174). -/
theorem requestHeader_fields (kind : BitVec 4) (seq : SeqNum) (cls : ReqClass) (reserved : BitVec 4) (tag : Byte)
    (length : BitVec 8) (rest : List Word) :
    let p : HostPacket := ⟨requestHeader kind seq cls reserved tag length, rest⟩
    p.kindCode = kind ∧ p.seq = seq ∧ p.cls = cls ∧ p.tag = tag ∧ p.length = length := by
  intro p
  have fields : HasField p.header 0
      (kind ++ seq ++ (if cls = .privileged then 1#1 else 0#1) ++ reserved ++ tag ++ length) :=
    BitVec.extractLsb'_eq_self
  simp only [hasField_append_iff] at fields
  obtain ⟨⟨⟨⟨⟨hkind, hseq⟩, hcls⟩, -⟩, htag⟩, hlength⟩ := fields
  refine ⟨hkind, hseq, ?_, htag, hlength⟩
  have bit : p.header.getLsbD 20 = (if cls = .privileged then 1#1 else 0#1 : BitVec 1).getLsbD 0 := by
    rw [← hcls, BitVec.getLsbD_extractLsb']
    rfl
  rw [HostPacket.cls, bit]
  cases cls <;> rfl

/-- The fields of a one-word packet with a kind and next (R175). -/
theorem controlHeader_fields (kind : BitVec 4) (next : SeqNum) :
    let p : HostPacket := ⟨kind ++ next ++ 0#21, []⟩
    p.kindCode = kind ∧ p.seq = next ∧ p.header.extractLsb' 0 21 = 0 := by
  intro p
  have fields : HasField p.header 0 (kind ++ next ++ 0#21) := BitVec.extractLsb'_eq_self
  simp only [hasField_append_iff] at fields
  obtain ⟨⟨hkind, hnext⟩, hzero⟩ := fields
  exact ⟨hkind, hnext, hzero⟩

/-! ### How a good packet is sorted (R128) -/

theorem arrival_of_packet {f : Frame} (h : f.packet? = some p) : f.arrival =
    if p.kindCode = 0x8#4 then .ack p
    else if p.kindCode = 0x9#4 then .nak p
    else if p.kindCode = 0xA#4 then .sync p
    else .sequenced p := by
  rw [Frame.arrival, h]

/-! ### MEM requests (R136) -/

/-- The request that a packet with word 1 and a payload holds, if it is self-consistent. -/
def HostPacket.asMem (p : HostPacket) (d : Direction) (address : Word) (payload : List Word) : MemRequest :=
  ⟨d, p.tag, p.cls, address, p.length, payload⟩

theorem memLengthOk_iff (length : BitVec 8) : memLengthOk length = true ↔ 1 ≤ length.toNat ∧ length.toNat ≤ 64 :=
  decide_eq_true_iff

theorem cfgLengthOk_iff (length : BitVec 8) : cfgLengthOk length = true ↔ 1 ≤ length.toNat ∧ length.toNat ≤ 16 :=
  decide_eq_true_iff

/-- A MEM packet holds its request when that is self-consistent, and none otherwise. -/
theorem memRequest?_cases {address : Word} {payload : List Word} (h : p.rest = address :: payload) (d : Direction) :
    (MemConsistent (p.asMem d address payload) ∧ p.memRequest? d = some (.mem (p.asMem d address payload))) ∨
      (¬ MemConsistent (p.asMem d address payload) ∧ p.memRequest? d = none) := by
  cases d with
  | read =>
    simp only [HostPacket.memRequest?, h, MemConsistent, HostPacket.asMem, decide_eq_true_eq]
    split_ifs with hc <;> simp [hc]
  | write =>
    simp only [HostPacket.memRequest?, h, MemConsistent, HostPacket.asMem, ← memLengthOk_iff]
    cases memLengthOk p.length with
    | true =>
      simp only [if_true, decide_eq_true_eq]
      split_ifs with hc <;> simp [hc]
    | false =>
      simp only [Bool.false_eq_true, if_false, decide_eq_true_eq]
      split_ifs with hc <;> simp [hc]

/-! ### CFG requests (R136) -/

/-- The request that a packet with word 1 and a payload holds, if it is self-consistent. -/
def HostPacket.asCfg (p : HostPacket) (d : Direction) (word1 : Word) (payload : List Word) : CfgRequest :=
  ⟨d, p.tag, p.cls, word1.extractLsb' 0 10, p.length, payload⟩

/-- A CFG packet holds its request when that is self-consistent, and none otherwise. -/
theorem cfgRequest?_cases {word1 : Word} {payload : List Word} (h : p.rest = word1 :: payload) (d : Direction) :
    (CfgConsistent (p.asCfg d word1 payload) ∧ p.cfgRequest? d = some (.cfg (p.asCfg d word1 payload))) ∨
      (¬ CfgConsistent (p.asCfg d word1 payload) ∧ p.cfgRequest? d = none) := by
  cases d with
  | read | write =>
    simp only [HostPacket.cfgRequest?, h, CfgConsistent, HostPacket.asCfg, ← and_assoc, ← cfgLengthOk_iff,
      Bool.and_eq_true, decide_eq_true_eq]
    split_ifs with hc <;> simp [hc]

/-! ### Kinds (chapter 11.1) -/

/-- The kind code of a MEM request. -/
def memKind : Direction → BitVec 4
  | .read => 1#4
  | .write => 2#4

/-- The kind code of a CFG request. -/
def cfgKind : Direction → BitVec 4
  | .read => 3#4
  | .write => 4#4

theorem request?_of_memKind {d : Direction} (h : p.kindCode = memKind d) : p.request? = p.memRequest? d := by
  cases d <;> simp [HostPacket.request?, h, memKind]

theorem request?_of_cfgKind {d : Direction} (h : p.kindCode = cfgKind d) : p.request? = p.cfgRequest? d := by
  cases d <;> simp [HostPacket.request?, h, cfgKind]

/-- A packet without word 1 holds no request (R136). -/
theorem request?_of_rest_nil (h : p.rest = []) : p.request? = none := by
  unfold HostPacket.request? HostPacket.memRequest? HostPacket.cfgRequest?
  rw [h]
  split_ifs <;> rfl

/-- Neither does one whose kind names no host request (R136). -/
theorem request?_of_other_kind (h : p.kindCode ∉ [1#4, 2#4, 3#4, 4#4]) : p.request? = none := by
  simp only [List.mem_cons, List.not_mem_nil, or_false, not_or] at h
  obtain ⟨h1, h2, h3, h4⟩ := h
  rw [HostPacket.request?, if_neg h1, if_neg h2, if_neg h3, if_neg h4]

/-! ### The malformed packets (R136) -/

section
variable {word1 : Word} {payload : List Word}

/-- A MEM packet is malformed when what it carries is not self-consistent (R136). -/
theorem memRequest?_eq_none_iff (h : p.rest = word1 :: payload) (d : Direction) :
    p.memRequest? d = none ↔ ¬ MemConsistent (p.asMem d word1 payload) := by
  rcases memRequest?_cases h d with ⟨hm, h⟩ | ⟨hm, h⟩ <;> simp [hm, h]

/-- A CFG packet is malformed when what it carries is not self-consistent (R136). -/
theorem cfgRequest?_eq_none_iff (h : p.rest = word1 :: payload) (d : Direction) :
    p.cfgRequest? d = none ↔ ¬ CfgConsistent (p.asCfg d word1 payload) := by
  rcases cfgRequest?_cases h d with ⟨hc, h⟩ | ⟨hc, h⟩ <;> simp [hc, h]

/-- A write that is self-consistent carries the beats of its length when that is 1 to 64, and otherwise none (R136). -/
theorem memConsistent_write_iff (p : HostPacket) (word1 : Word) (payload : List Word) :
    MemConsistent (p.asMem .write word1 payload) ↔
      payload.length = if 1 ≤ p.length.toNat ∧ p.length.toNat ≤ 64 then p.length.toNat else 0 := by
  by_cases h : 1 ≤ p.length.toNat ∧ p.length.toNat ≤ 64
  · rw [if_pos h]
    exact iff_of_eq (if_pos h)
  · rw [if_neg h]
    exact (iff_of_eq (if_neg h)).trans List.length_eq_zero_iff.symm

end

/-- The malformed sequenced packets, by kind (R136). -/
theorem request?_eq_none_iff (p : HostPacket) : p.request? = none ↔
    p.rest = [] ∨ p.kindCode ∉ [1#4, 2#4, 3#4, 4#4] ∨ (p.kindCode = 1#4 ∧ p.rest.tail ≠ []) ∨
      (p.kindCode = 2#4 ∧ p.rest.tail.length ≠
        (if 1 ≤ p.length.toNat ∧ p.length.toNat ≤ 64 then p.length.toNat else 0)) ∨
      (p.kindCode = 3#4 ∧ ¬ (1 ≤ p.length.toNat ∧ p.length.toNat ≤ 16 ∧ p.rest.tail = [])) ∨
      (p.kindCode = 4#4 ∧ ¬ (1 ≤ p.length.toNat ∧ p.length.toNat ≤ 16 ∧ p.rest.tail.length = p.length.toNat)) := by
  cases hrest : p.rest with
  | nil => simp [request?_of_rest_nil hrest]
  | cons word1 payload =>
    by_cases hother : p.kindCode ∉ [1#4, 2#4, 3#4, 4#4]
    · simp only [request?_of_other_kind hother, hother, true_or, or_true, not_false_eq_true]
    · simp only [List.mem_cons, List.not_mem_nil, or_false, not_not] at hother
      rcases hother with hk | hk | hk | hk
      · rw [request?_of_memKind (d := .read) hk, memRequest?_eq_none_iff hrest, hk]
        simp [MemConsistent, HostPacket.asMem]
      · rw [request?_of_memKind (d := .write) hk, memRequest?_eq_none_iff hrest, memConsistent_write_iff, hk]
        simp
      · rw [request?_of_cfgKind (d := .read) hk, cfgRequest?_eq_none_iff hrest, hk]
        simp [CfgConsistent, HostPacket.asCfg]
      · rw [request?_of_cfgKind (d := .write) hk, cfgRequest?_eq_none_iff hrest, hk]
        simp [CfgConsistent, HostPacket.asCfg]

/-! ### Requests sent and read back (R136, R174) -/

/-- A request's frame holds a sequenced packet with its header's fields (R128, R174). -/
theorem request_arrives {kind : BitVec 4} (hkind : kind ≠ 8#4 ∧ kind ≠ 9#4 ∧ kind ≠ 10#4) (seq : SeqNum)
    (cls : ReqClass) (reserved : BitVec 4) (tag : Byte) (length : BitVec 8) (word1 : Word)
    {payload : List Word} (hpayload : payload.length ≤ 64) :
    ∃ p : HostPacket, (Frame.ofWords (requestHeader kind seq cls reserved tag length :: word1 :: payload)).arrival =
      .sequenced p ∧ p.seq = seq ∧ p.kindCode = kind ∧ p.cls = cls ∧ p.tag = tag ∧ p.length = length ∧
        p.rest = word1 :: payload := by
  obtain ⟨hcode, hseq, hcls, htag, hlength⟩ := requestHeader_fields kind seq cls reserved tag length (word1 :: payload)
  obtain ⟨h8, h9, h10⟩ := hkind
  refine ⟨_, ?_, hseq, hcode, hcls, htag, hlength, rfl⟩
  have fits : (word1 :: payload).length ≤ 65 := Nat.succ_le_succ hpayload
  rw [arrival_of_packet (packet?_ofWords fits), hcode, if_neg h8, if_neg h9, if_neg h10]

/-- A self-consistent MEM request has at most 64 beats (R136). -/
theorem beats_length_le {m : MemRequest} (h : MemConsistent m) : m.beats.length ≤ 64 := by
  unfold MemConsistent at h
  split at h
  · simp [h]
  · split_ifs at h with hlength
    · exact h ▸ hlength.2
    · simp [h]

/-- A self-consistent CFG request has at most 16 words of data (R136). -/
theorem data_length_le {c : CfgRequest} (h : CfgConsistent c) : c.data.length ≤ 16 := by
  obtain ⟨-, hlength, h⟩ := h
  split at h
  · simp [h]
  · exact h ▸ hlength

/-- A MEM request sent is the request received. -/
theorem mem_readBack {m : MemRequest} (hm : MemConsistent m) {kind : BitVec 4} (hkind : kind = memKind m.direction)
    (seq : SeqNum) (reserved : BitVec 4) :
    ∃ p : HostPacket, (Frame.ofWords (requestHeader kind seq m.cls reserved m.tag m.length :: m.address ::
      m.beats)).arrival = .sequenced p ∧ p.seq = seq ∧ p.request? = some (.mem m) := by
  have other : kind ≠ 8#4 ∧ kind ≠ 9#4 ∧ kind ≠ 10#4 := by rw [hkind]; cases m.direction <;> decide
  obtain ⟨p, harrival, hseq, hcode, hcls, htag, hlength, hrest⟩ :=
    request_arrives other seq m.cls reserved m.tag m.length m.address (beats_length_le hm)
  have same : p.asMem m.direction m.address m.beats = m := by rw [HostPacket.asMem, htag, hcls, hlength]
  have request := memRequest?_cases hrest m.direction
  rw [same] at request
  exact ⟨p, harrival, hseq, (request?_of_memKind (hcode.trans hkind)).trans (request.resolve_right fun h => h.1 hm).2⟩

/-- A CFG request sent is the request received. -/
theorem cfg_readBack {c : CfgRequest} (hc : CfgConsistent c) {kind : BitVec 4} (hkind : kind = cfgKind c.direction)
    (seq : SeqNum) (reserved : BitVec 4) (reserved1 : BitVec 22) :
    ∃ p : HostPacket, (Frame.ofWords (requestHeader kind seq c.cls reserved c.tag c.length :: (reserved1 ++ c.start) ::
      c.data)).arrival = .sequenced p ∧ p.seq = seq ∧ p.request? = some (.cfg c) := by
  have other : kind ≠ 8#4 ∧ kind ≠ 9#4 ∧ kind ≠ 10#4 := by rw [hkind]; cases c.direction <;> decide
  obtain ⟨p, harrival, hseq, hcode, hcls, htag, hlength, hrest⟩ :=
    request_arrives other seq c.cls reserved c.tag c.length (reserved1 ++ c.start)
      ((data_length_le hc).trans (by decide : 16 ≤ 64))
  have same : p.asCfg c.direction (reserved1 ++ c.start) c.data = c := by
    rw [HostPacket.asCfg, htag, hcls, hlength, BitVec.extractLsb'_append_eq_right]
  have request := cfgRequest?_cases hrest c.direction
  rw [same] at request
  exact ⟨p, harrival, hseq, (request?_of_cfgKind (hcode.trans hkind)).trans (request.resolve_right fun h => h.1 hc).2⟩

end Sys2Proof
end

section
/-! PROOFS. O8: the host's packets read back. -/

namespace Sys2Proof.Proofs

open Sys2Proof.Machine

/-- Settles O8: requests by their direction's kind; the control packets by theirs. -/
theorem hostPacketsReadBack : Obligations.HostPacketsReadBack := by
  refine ⟨fun m seq reserved hm => mem_readBack hm (by cases m.direction <;> rfl) seq reserved,
    fun c seq reserved reserved1 hc => cfg_readBack hc (by cases c.direction <;> rfl) seq reserved reserved1,
    fun next => ?_, fun next => ?_, ⟨⟨0xA0000000#32, []⟩, ?_, rfl, by decide⟩⟩
  · obtain ⟨hcode, hnext, hzero⟩ := controlHeader_fields 8#4 next
    refine ⟨_, ?_, hnext, rfl, hzero⟩
    rw [arrival_of_packet (packet?_ofWords (Nat.zero_le _)), if_pos hcode]
  · obtain ⟨hcode, hnext, hzero⟩ := controlHeader_fields 9#4 next
    refine ⟨_, ?_, hnext, rfl, hzero⟩
    rw [arrival_of_packet (packet?_ofWords (Nat.zero_le _)), hcode]
    rfl
  · rw [arrival_of_packet (packet?_ofWords (Nat.zero_le _))]
    rfl

end Sys2Proof.Proofs
end

section
/-! PROOFS. What the Link Port does with each arrival (R129 to R154): one rule for the order in which a packet is
judged, and what each judgement makes of the record. -/

namespace Sys2Proof.Machine

variable {s : State} {f : Frame} {p : HostPacket}

/-! ### Counters and control packets made due (R134, R135, R150) -/

/-- A link counter at 65535 stays at 65535 (R150). -/
theorem countUp_eq (c : BitVec 16) : countUp c = if c = 0xFFFF then 0xFFFF else c + 1 :=
  ite_congr rfl id fun _ => rfl

/-- A NAK is made due when nakSent is no, and nakSent becomes yes (R134). -/
theorem noteGap_eq (k : LinkPort) :
    k.noteGap = { k with nakSent := true, due := { k.due with nak := k.due.nak || !k.nakSent } } := by
  cases h : k.nakSent with
  | true =>
    rw [LinkPort.noteGap, if_pos h, Bool.not_true, Bool.or_false, ← h]
  | false =>
    rw [LinkPort.noteGap, if_neg (by rw [h]; exact Bool.false_ne_true), Bool.not_false, Bool.or_true]

/-- What an acceptance makes of the record (R134, R135). -/
theorem accept_eq (k : LinkPort) : k.accept = k.afterAcceptance := rfl

/-- A malformed packet is counted and noticed (R136). -/
theorem noteMalformed_eq (s : State) : s.noteMalformed = ({ s with
    link := { s.link with counters := { s.link.counters with
      malformed := if s.link.counters.malformed = 0xFFFF then 0xFFFF else s.link.counters.malformed + 1 } } } :
      State).addNotice ⟨.malformed, none, none, none, none, none, false⟩ := by
  rw [← countUp_eq]
  rfl

/-- An overrun is counted and noticed (R154). -/
theorem overrun_eq (s : State) (kind : CreditKind) (tag : Option Byte) : s.overrun kind tag = ({ s with
    link := { s.link with counters := { s.link.counters with creditOverruns :=
      if s.link.counters.creditOverruns = 0xFFFF then 0xFFFF else s.link.counters.creditOverruns + 1 } } } :
      State).addNotice ⟨.creditOverrun, none, tag, none, none, some kind, false⟩ := by
  rw [← countUp_eq]
  rfl

/-! ### BAD_PACKET (R129, R134) -/

/-- A bad frame is counted; while UP it may make a NAK due (R129, R134). -/
theorem exec_badPacket_of_bad (hs : s.resetHeld = false) (hf : f.arrival = .bad) : exec (.badPacket f) s =
    .next (s.setLink (if s.link.linkState = .up then s.link.countCheckError.noteGap else s.link.countCheckError)) := by
  show unlessHeld s _ = _
  simp only [unlessHeld_of_high hs, hf]
  rfl

/-! ### SEQUENCED_PACKET (R134, R136, R137) -/

theorem exec_sequencedPacket_of_up (hs : s.resetHeld = false) (hf : f.arrival = .sequenced p)
    (hup : s.link.linkState = .up) : exec (.sequencedPacket f) s = .next (s.judgeSequence p) := by
  show unlessHeld s _ = _
  simp only [unlessHeld_of_high hs, hf, if_pos hup]

/-- While DOWN a sequenced packet is discarded (R131). -/
theorem exec_sequencedPacket_of_down (hs : s.resetHeld = false) (hf : f.arrival = .sequenced p)
    (hdown : s.link.linkState = .down) : exec (.sequencedPacket f) s = .next s := by
  show unlessHeld s _ = _
  simp only [unlessHeld_of_high hs, hf, hdown, reduceCtorEq, if_false]

/-- A duplicate is to be acknowledged again (R134, R138). -/
theorem judgeSequence_of_duplicate (h : 64 ≤ (p.seq - s.link.expectedSeq).toNat) :
    s.judgeSequence p = s.setLink s.link.noteAckPending :=
  (if_neg (by omega)).trans (if_pos h)

/-- A packet ahead of its turn is counted and may make a NAK due (R134, R135). -/
theorem judgeSequence_of_ahead (h : 1 ≤ (p.seq - s.link.expectedSeq).toNat)
    (h63 : (p.seq - s.link.expectedSeq).toNat ≤ 63) :
    s.judgeSequence p = s.setLink s.link.countSequenceError.noteGap :=
  (if_neg (by omega)).trans (if_neg (by omega))

/-- A packet in sequence is accepted (R134). -/
theorem judgeSequence_of_inSequence (h : p.seq = s.link.expectedSeq) : s.judgeSequence p = s.acceptPacket p :=
  if_pos (by rw [h, BitVec.sub_self]; rfl)

/-- A packet in sequence while UP that is malformed is accepted, and discarded (R134, R136). -/
theorem exec_sequencedPacket_of_malformed (hs : s.resetHeld = false) (hf : f.arrival = .sequenced p)
    (hup : s.link.linkState = .up) (hseq : p.seq = s.link.expectedSeq) (hp : p.request? = none) :
    exec (.sequencedPacket f) s = .next (s.setLink s.link.afterAcceptance).noteMalformed := by
  rw [exec_sequencedPacket_of_up hs hf hup, judgeSequence_of_inSequence hseq]
  simp only [State.acceptPacket, hp, accept_eq]

/-- A packet in sequence while UP that holds a request is accepted, and its credits are checked (R134, R137). -/
theorem exec_sequencedPacket_of_request {r : Request} (hs : s.resetHeld = false) (hf : f.arrival = .sequenced p)
    (hup : s.link.linkState = .up) (hseq : p.seq = s.link.expectedSeq) (hp : p.request? = some r) :
    exec (.sequencedPacket f) s = .next ((s.setLink s.link.afterAcceptance).creditCheck r) := by
  rw [exec_sequencedPacket_of_up hs hf hup, judgeSequence_of_inSequence hseq]
  simp only [State.acceptPacket, hp, accept_eq]

/-! ### The credit check (R153, R154) -/

section
variable {m : MemRequest} {c : CfgRequest}

/-- A MEM packet with its credits consumes them and is handed on (R137, R153). -/
theorem creditCheck_of_mem (hreq : 1 ≤ s.credits.request.available)
    (hdata : dataNeeded m ≤ s.credits.data.available) : s.creditCheck (.mem m) = { s with
      memHanded := s.memHanded ++ [m]
      credits := { s.credits with
        request := { s.credits.request with available := s.credits.request.available - 1 }
        data := { s.credits.data with available := s.credits.data.available - dataNeeded m } } } := by
  rw [← dataCreditsFor_eq] at hdata ⊢
  exact (if_neg (not_lt.mpr hreq)).trans (if_neg (not_lt.mpr hdata))

/-- A CFG packet with its credit consumes it and is handed on (R137, R153). -/
theorem creditCheck_of_cfg (h : 1 ≤ s.credits.management.available) : s.creditCheck (.cfg c) = { s with
      cfgHanded := s.cfgHanded ++ [c]
      credits := { s.credits with
        management := { s.credits.management with available := s.credits.management.available - 1 } } } :=
  if_neg (not_lt.mpr h)

/-- Without a request credit a MEM packet overruns, whatever its data credits (R154). -/
theorem creditCheck_of_no_request (h : s.credits.request.available = 0) :
    s.creditCheck (.mem m) = s.overrun .request (some m.tag) :=
  if_pos (by rw [h]; exact Nat.zero_lt_one)

/-- With a request credit but too few data credits a MEM packet overruns in data (R154). -/
theorem creditCheck_of_no_data (hreq : 1 ≤ s.credits.request.available)
    (hdata : s.credits.data.available < dataNeeded m) : s.creditCheck (.mem m) = s.overrun .data (some m.tag) := by
  rw [← dataCreditsFor_eq] at hdata
  exact (if_neg (not_lt.mpr hreq)).trans (if_pos hdata)

/-- Without a management credit a CFG packet overruns (R154). -/
theorem creditCheck_of_no_management (h : s.credits.management.available = 0) :
    s.creditCheck (.cfg c) = s.overrun .management none :=
  if_pos (by rw [h]; exact Nat.zero_lt_one)

end

/-! ### HOST_ACK and HOST_NAK (R131, R136, R142, R143) -/

/-- An ACK or a NAK, which leads to `t` when it is taken: without effect while DOWN, discarded when malformed, and
ignored out of window (R131, R136, R142). -/
def State.judgeAck (s : State) (p : HostPacket) (t : State) : State :=
  if s.link.linkState = .down then s
  else if p.ackWellFormed = false then s.noteMalformed
  else if s.link.inWindow p.seq then t
  else s

theorem exec_hostAck_of_ack (hs : s.resetHeld = false) (hf : f.arrival = .ack p) :
    exec (.hostAck f) s = .next (s.judgeAck p (s.setLink (s.link.acknowledge p.seq))) := by
  show unlessHeld s _ = _
  simp only [unlessHeld_of_high hs, hf, State.judgeAck]
  split_ifs <;> rfl

theorem exec_hostNak_of_nak (hs : s.resetHeld = false) (hf : f.arrival = .nak p) :
    exec (.hostNak f) s = .next (s.judgeAck p (s.takeNak p.seq)) := by
  show unlessHeld s _ = _
  simp only [unlessHeld_of_high hs, hf, State.judgeAck]
  split_ifs <;> rfl

theorem judgeAck_of_down (h : s.link.linkState = .down) (p : HostPacket) (t : State) : s.judgeAck p t = s :=
  if_pos h

/-- A malformed ACK or NAK has more than its header word, or bits set besides kind and next (R175). -/
theorem judgeAck_of_malformed (hup : s.link.linkState = .up) (h : p.rest ≠ [] ∨ p.header.extractLsb' 0 21 ≠ 0)
    (t : State) : s.judgeAck p t = s.noteMalformed := by
  have malformed : p.ackWellFormed = false := by
    rw [HostPacket.ackWellFormed, ← Bool.decide_and]
    exact decide_eq_false fun ⟨hrest, hzero⟩ => h.elim (absurd hrest) (absurd hzero)
  rw [State.judgeAck, hup, if_neg LinkState.noConfusion, if_pos malformed]

/-- A well-formed ACK or NAK while UP is taken in window and ignored out of it (R142, R143). -/
theorem judgeAck_of_wellFormed (hup : s.link.linkState = .up) (hrest : p.rest = [])
    (hzero : p.header.extractLsb' 0 21 = 0) (t : State) :
    s.judgeAck p t = if s.link.inWindow p.seq then t else s := by
  rw [State.judgeAck, hup, if_neg LinkState.noConfusion, ackWellFormed_of_zero hrest hzero,
    if_neg Bool.noConfusion]

/-! ### SYNC (R132, R136, R175) -/

theorem exec_sync_of_wellFormed (hs : s.resetHeld = false) (hf : f.arrival = .sync p) (hrest : p.rest = [])
    (hzero : p.header.extractLsb' 0 28 = 0) : exec (.sync f) s = .next s.takeSync := by
  show unlessHeld s _ = _
  simp only [unlessHeld_of_high hs, hf, syncWellFormed_of_zero hrest hzero, if_true]

theorem exec_sync_of_malformed (hs : s.resetHeld = false) (hf : f.arrival = .sync p)
    (h : p.rest ≠ [] ∨ p.header.extractLsb' 0 28 ≠ 0) : exec (.sync f) s = .next s.noteMalformed := by
  have malformed : p.syncWellFormed = false := by
    rw [HostPacket.syncWellFormed, ← Bool.decide_and]
    exact decide_eq_false fun ⟨hrest, hzero⟩ => h.elim (absurd hrest) (absurd hzero)
  show unlessHeld s _ = _
  simp only [unlessHeld_of_high hs, hf, malformed, Bool.false_eq_true, if_false]

end Sys2Proof.Machine
end

section
/-! PROOFS. O9 to O12: packets accepted and packets that are not. -/

namespace Sys2Proof.Proofs

open Sys2Proof.Machine

/-- Settles O9: a bad frame by the link state and nakSent; a sequenced packet by the link state and its distance. -/
theorem packetsNotAccepted : Obligations.PacketsNotAccepted := by
  refine fun s f hs => ⟨fun hf => ?_, fun p hf => ⟨exec_sequencedPacket_of_down hs hf, fun hup hd => ?_,
    fun hup hd h63 => ?_⟩⟩
  · rw [exec_badPacket_of_bad hs hf, ← countUp_eq]
    cases hl : s.link.linkState with
    | up =>
      rw [if_pos rfl, noteGap_eq, decide_eq_true rfl, Bool.or_true, Bool.true_and]
      rfl
    | down =>
      rw [if_neg LinkState.noConfusion, decide_eq_false LinkState.noConfusion, Bool.or_false, Bool.false_and,
        Bool.or_false]
      rfl
  · rw [exec_sequencedPacket_of_up hs hf hup, judgeSequence_of_duplicate hd]
    rfl
  · rw [exec_sequencedPacket_of_up hs hf hup, judgeSequence_of_ahead hd h63, noteGap_eq, ← countUp_eq]
    rfl

/-- Settles O11: the acceptance, and the credit check passed. -/
theorem packetHandedOn : Obligations.PacketHandedOn := by
  refine fun s f p hs hf hup hseq => ⟨fun m hm hreq hdata => ?_, fun c hc hmgmt => ?_⟩
  · rw [exec_sequencedPacket_of_request hs hf hup hseq hm, creditCheck_of_mem (by exact hreq) (by exact hdata)]
    rfl
  · rw [exec_sequencedPacket_of_request hs hf hup hseq hc, creditCheck_of_cfg (by exact hmgmt)]
    rfl

/-- Settles O12: the acceptance, and the credit check by the first kind that is short. -/
theorem creditOverrun : Obligations.CreditOverrun := by
  refine fun s f p hs hf hup hseq => ⟨fun m hm hreq => ?_, fun m hm hreq hdata => ?_, fun c hc hmgmt => ?_⟩
  · rw [exec_sequencedPacket_of_request hs hf hup hseq hm, creditCheck_of_no_request (by exact hreq), overrun_eq]
    rfl
  · rw [exec_sequencedPacket_of_request hs hf hup hseq hm, creditCheck_of_no_data (by exact hreq) (by exact hdata),
      overrun_eq]
    rfl
  · rw [exec_sequencedPacket_of_request hs hf hup hseq hc, creditCheck_of_no_management (by exact hmgmt), overrun_eq]
    rfl

/-- Settles O10: the table of R136, then each kind of arrival by the link state and its form. -/
theorem malformedPackets : Obligations.MalformedPackets := by
  refine ⟨request?_eq_none_iff, fun s f p hs => ⟨fun hup hf hseq hnone => ?_, fun hup hform => ⟨fun hf => ?_,
    fun hf => ?_⟩, fun hform hf => ?_, fun hdown => ⟨fun hf => ?_, fun hf => ?_⟩⟩⟩
  · rw [exec_sequencedPacket_of_malformed hs hf hup hseq hnone, noteMalformed_eq]
    rfl
  · rw [exec_hostAck_of_ack hs hf, judgeAck_of_malformed hup hform, noteMalformed_eq]
  · rw [exec_hostNak_of_nak hs hf, judgeAck_of_malformed hup hform, noteMalformed_eq]
  · rw [exec_sync_of_malformed hs hf hform, noteMalformed_eq]
  · rw [exec_hostAck_of_ack hs hf, judgeAck_of_down hdown]
  · rw [exec_hostNak_of_nak hs hf, judgeAck_of_down hdown]

end Sys2Proof.Proofs
end

section
/-! PROOFS. The numbers of the packets that the replay buffer holds (R141, R142): each packet's own, none twice, and
those that remain when the packets an ACK covers leave. -/

namespace Sys2Proof.Machine

variable {a b : SeqNum} {l : List SeqPacket} {k : LinkPort}

/-! ### Numbered lists -/

/-- One place further on stands the next number. -/
theorem next_number (a : SeqNum) (i : Nat) : a + 1 + BitVec.ofNat 7 i = a + BitVec.ofNat 7 (i + 1) := by
  rw [BitVec.add_assoc, Nat.add_comm, BitVec.ofNat_add]
  rfl

/-- The number after the last packet. -/
theorem numbered_end (h : numbered a l b) : b = a + BitVec.ofNat 7 l.length := by
  induction l generalizing a with
  | nil =>
    obtain rfl : a = b := h
    simp
  | cons p l ih =>
    rw [ih h.2, next_number, List.length_cons]

/-- The number of the packet at a place. -/
theorem numbered_getElem (h : numbered a l b) {i : Nat} (hi : i < l.length) : l[i].seq = a + BitVec.ofNat 7 i := by
  induction l generalizing a i with
  | nil => cases hi
  | cons p l ih =>
    cases i with
    | zero => simpa using h.1
    | succ i =>
      rw [List.getElem_cons_succ, ih h.2 (Nat.lt_of_succ_lt_succ hi), next_number]

/-- The first number of what remains when packets leave. -/
theorem numbered_drop_length (h : numbered a l b) {n : Nat} (hn : n ≤ l.length) :
    numbered (a + BitVec.ofNat 7 n) (l.drop n) b := by
  induction l generalizing a n with
  | nil =>
    obtain rfl : n = 0 := Nat.le_zero.mp hn
    simpa using h
  | cons p l ih =>
    cases n with
    | zero => simpa using h
    | succ n =>
      rw [List.drop_succ_cons, ← next_number]
      exact ih h.2 (Nat.le_of_succ_le_succ hn)

/-- Below 128 places, two distances from one number that agree modulo 128 are one. -/
theorem distance_injective {i j : Nat} (hi : i < 128) (hj : j < 128)
    (h : a + BitVec.ofNat 7 i = a + BitVec.ofNat 7 j) : i = j := by
  have same := congrArg BitVec.toNat ((BitVec.add_right_inj a).mp h)
  rwa [BitVec.toNat_ofNat, BitVec.toNat_ofNat, Nat.mod_eq_of_lt hi, Nat.mod_eq_of_lt hj] at same

/-! ### The buffer (R141) -/

/-- A buffer under its law holds fewer than 128 packets. -/
theorem replayBuffer_length_lt (hk : k.bufferLaw) : k.replayBuffer.length < 128 :=
  hk.1.trans_lt (by decide)

/-- No two packets of the buffer have one number. -/
theorem eq_of_seq_eq (hk : k.bufferLaw) {p q : SeqPacket} (hp : p ∈ k.replayBuffer) (hq : q ∈ k.replayBuffer)
    (h : p.seq = q.seq) : p = q := by
  have few := replayBuffer_length_lt hk
  obtain ⟨i, hi, rfl⟩ := List.getElem_of_mem hp
  obtain ⟨j, hj, rfl⟩ := List.getElem_of_mem hq
  rw [numbered_getElem hk.2 hi, numbered_getElem hk.2 hj] at h
  obtain rfl := distance_injective (hi.trans few) (hj.trans few) h
  rfl

/-- The packet numbered replayPointer is the one a replay sends next (R145). -/
theorem replayPacket_of_mem (hk : k.bufferLaw) {p : SeqPacket} (hp : p ∈ k.replayBuffer)
    (hseq : p.seq = k.replayPointer) : k.replayPacket = some p := by
  obtain ⟨q, hq⟩ := Option.isSome_iff_exists.mp ((replayPacket_isSome_iff k).mpr ⟨p, hp, hseq⟩)
  have found : q.seq = k.replayPointer := by simpa using List.find?_some hq
  rw [hq, eq_of_seq_eq hk (List.mem_of_find?_eq_some hq) hp (found.trans hseq.symm)]

/-- The newest packet is the one whose number stands before outboundNext (R141). -/
theorem isNewest_iff (hk : k.bufferLaw) {p : SeqPacket} (hp : p ∈ k.replayBuffer) :
    k.isNewest p = true ↔ p.seq + 1 = k.outboundNext := by
  have few := replayBuffer_length_lt hk
  obtain ⟨i, hi, rfl⟩ := List.getElem_of_mem hp
  have next : k.replayBuffer[i].seq + 1 = k.oldestSeq + BitVec.ofNat 7 (i + 1) := by
    rw [numbered_getElem hk.2 hi, ← next_number, BitVec.add_assoc, BitVec.add_assoc, BitVec.add_comm 1]
  rw [LinkPort.isNewest, decide_eq_true_eq, next, numbered_end hk.2, List.getLast?_eq_getElem?]
  constructor
  · intro hlast
    obtain ⟨hlt, hlast⟩ := List.getElem?_eq_some_iff.mp hlast
    have place : k.replayBuffer.length - 1 = i := by
      refine distance_injective (a := k.oldestSeq) (hlt.trans few) (hi.trans few) ?_
      rw [← numbered_getElem hk.2 hlt, ← numbered_getElem hk.2 hi, hlast]
    rw [show i + 1 = k.replayBuffer.length by omega]
  · intro hend
    have place := distance_injective (Nat.lt_of_le_of_lt (Nat.succ_le_of_lt hi) few) few hend
    rw [← place, Nat.succ_sub_one, List.getElem?_eq_getElem hi]

/-! ### The window of an ACK (R142) -/

/-- ACK(n) is in window when it covers no more packets than the buffer holds. -/
theorem inWindow_iff_of_bufferLaw (hk : k.bufferLaw) (n : SeqNum) :
    k.inWindow n = true ↔ k.covered n ≤ k.replayBuffer.length := by
  have width : (k.outboundNext - k.oldestSeq).toNat = k.replayBuffer.length := by
    rw [numbered_end hk.2, BitVec.add_comm, BitVec.add_sub_cancel, BitVec.toNat_ofNat,
      Nat.mod_eq_of_lt (replayBuffer_length_lt hk)]
  rw [LinkPort.inWindow, decide_eq_true_eq, width]

/-- The numbers of a buffer begin with its oldest. -/
theorem oldestSeq_of_numbered (h : numbered a k.replayBuffer k.outboundNext) : k.oldestSeq = a := by
  unfold LinkPort.oldestSeq
  split
  · next hb =>
    rw [hb] at h
    exact h.symm
  · next hb =>
    rw [hb] at h
    exact h.1

/-- In window, what remains of the buffer is numbered from n (R142). -/
theorem numbered_of_inWindow (hk : k.bufferLaw) {n : SeqNum} (h : k.covered n ≤ k.replayBuffer.length) :
    numbered n (k.replayBuffer.drop (k.covered n)) k.outboundNext := by
  have rest := numbered_drop_length hk.2 h
  rwa [LinkPort.covered, BitVec.ofNat_toNat, BitVec.setWidth_eq, BitVec.add_comm, BitVec.sub_add_cancel] at rest

/-! ### An ACK taken (R142, R146) -/

theorem acknowledge_of_uncovered {n : SeqNum} (h : k.covered n = 0) : k.acknowledge n = k := if_pos h

/-- What an ACK leaves in the buffer. -/
theorem acknowledge_replayBuffer (k : LinkPort) (n : SeqNum) :
    (k.acknowledge n).replayBuffer = k.replayBuffer.drop (k.covered n) := by
  by_cases h : k.covered n = 0
  · rw [acknowledge_of_uncovered h, h, List.drop_zero]
  · rw [acknowledge_of_covered h]
    rfl

/-- An ACK changes the buffer, the count of replays, their timer and the replay in progress, and nothing else. -/
theorem acknowledge_frame (k : LinkPort) (n : SeqNum) : k.acknowledge n = { k with
    replayBuffer := (k.acknowledge n).replayBuffer, replayCount := (k.acknowledge n).replayCount
    replayTimer := (k.acknowledge n).replayTimer, replayInProgress := (k.acknowledge n).replayInProgress
    replayPointer := (k.acknowledge n).replayPointer } := by
  unfold LinkPort.acknowledge
  split <;> rfl

/-- In window, n becomes the oldest number (R142). -/
theorem acknowledge_numbered (hk : k.bufferLaw) {n : SeqNum} (h : k.covered n ≤ k.replayBuffer.length) :
    numbered n (k.acknowledge n).replayBuffer (k.acknowledge n).outboundNext := by
  have same_next : (k.acknowledge n).outboundNext = k.outboundNext := by rw [acknowledge_frame]
  rw [acknowledge_replayBuffer, same_next]
  exact numbered_of_inWindow hk h

/-- In window, the buffer's law goes on (R141, R142). -/
theorem acknowledge_bufferLaw (hk : k.bufferLaw) {n : SeqNum} (h : k.covered n ≤ k.replayBuffer.length) :
    (k.acknowledge n).bufferLaw := by
  refine (bufferLaw_iff _).mpr ⟨?_, n, acknowledge_numbered hk h⟩
  rw [acknowledge_replayBuffer]
  exact (List.drop_sublist ..).length_le.trans hk.1

/-- The replay pointer after packets have left: kept while its packet remains, and otherwise at the oldest that remains
(R146). -/
theorem acknowledge_replayPointer {n : SeqNum} (h : k.covered n ≠ 0) (hreplay : k.replayInProgress = true)
    (hrest : (k.acknowledge n).replayBuffer ≠ []) :
    ((∃ q ∈ (k.acknowledge n).replayBuffer, q.seq = k.replayPointer) →
        (k.acknowledge n).replayPointer = k.replayPointer) ∧
      ((∀ q ∈ (k.acknowledge n).replayBuffer, q.seq ≠ k.replayPointer) →
        (k.acknowledge n).replayPointer = (k.acknowledge n).oldestSeq) := by
  have held : (k.packetsLeft n).replayPacket.isSome = true ↔
      ∃ q ∈ (k.acknowledge n).replayBuffer, q.seq = k.replayPointer := by
    rw [replayPacket_isSome_iff, acknowledge_replayBuffer]
    rfl
  have remains : (k.packetsLeft n).replayBuffer ≠ [] := by rwa [acknowledge_replayBuffer] at hrest
  have pointer : (k.acknowledge n).replayPointer =
      if (k.packetsLeft n).replayPacket.isNone then (k.packetsLeft n).oldestSeq else k.replayPointer := by
    rw [acknowledge_of_covered h]
    simp only [hreplay, decide_eq_true remains, Bool.true_and]
  refine ⟨fun hq => ?_, fun hq => ?_⟩
  · rw [pointer, if_neg]
    rw [Bool.not_eq_true, Option.isNone_eq_false_iff]
    exact held.mpr hq
  · rw [pointer, if_pos, acknowledge_of_covered h]
    · rfl
    · rw [← Option.not_isSome, Bool.not_eq_true', ← Bool.not_eq_true, held]
      exact fun ⟨q, hmem, hseq⟩ => hq q hmem hseq

/-! ### A replay started, a NAK taken (R143, R145) -/

/-- Below a replayCount of 4 a replay starts with the oldest packet (R145). -/
theorem startReplay_of_few {s : State} (h : s.link.replayCount < 4) : s.startReplay = { s with link := { s.link with
    counters := { s.link.counters with
      replays := if s.link.counters.replays = 0xFFFF then 0xFFFF else s.link.counters.replays + 1 }
    replayCount := s.link.replayCount + 1
    replayInProgress := true
    replayPointer := s.link.oldestSeq
    replayTimer := some (s.link.replayTimeout.toNat * 8) } } := by
  rw [← countUp_eq]
  exact if_neg (not_le.mpr h)

/-- A NAK after which the buffer is empty acts as the ACK alone (R143). -/
theorem takeNak_of_empty {s : State} {n : SeqNum} (h : (s.link.acknowledge n).replayBuffer = []) :
    s.takeNak n = s.setLink (s.link.acknowledge n) :=
  if_pos h

/-- A NAK after which a packet is held acts as the ACK, and then starts a replay (R143). -/
theorem takeNak_of_held {s : State} {n : SeqNum} (h : (s.link.acknowledge n).replayBuffer ≠ []) :
    s.takeNak n = (s.setLink (s.link.acknowledge n)).startReplay :=
  if_neg h

end Sys2Proof.Machine
end

section
/-! PROOFS. O13, O14: ACK and NAK from the host. -/

namespace Sys2Proof.Proofs

open Sys2Proof.Machine

/-- Settles O13: out of window the ACK is ignored; in window what `acknowledge` makes of the record, with packets
leaving or none. -/
theorem hostAck : Obligations.HostAck := by
  intro s f p hs hf hup hrest hzero hbuf leaves
  have judged : exec (.hostAck f) s =
      .next (if s.link.inWindow p.seq then s.setLink (s.link.acknowledge p.seq) else s) := by
    rw [exec_hostAck_of_ack hs hf, judgeAck_of_wellFormed hup hrest hzero]
  refine ⟨fun hout => ?_, fun hin => ⟨s.link.acknowledge p.seq, ?_, acknowledge_frame _ _, acknowledge_replayBuffer _ _,
    oldestSeq_of_numbered (acknowledge_numbered hbuf hin), acknowledge_bufferLaw hbuf hin, acknowledge_of_uncovered,
    fun hleaves => ?_⟩⟩
  · rw [judged, if_neg (mt (inWindow_iff_of_bufferLaw hbuf _).mp (not_le.mpr hout))]
  · rw [judged, if_pos ((inWindow_iff_of_bufferLaw hbuf _).mpr hin)]
    rfl
  · have covered : s.link.covered p.seq ≠ 0 := Nat.one_le_iff_ne_zero.mp hleaves
    have oldest := oldestSeq_of_numbered (acknowledge_numbered hbuf hin)
    have pointer := acknowledge_replayPointer (n := p.seq) covered
    rw [oldest] at pointer
    refine ⟨?_, fun hempty => ?_, fun hheld => ⟨?_, ?_, fun hreplay => pointer hreplay hheld⟩⟩
    · rw [acknowledge_of_covered covered]
      rfl
    · rw [acknowledge_replayBuffer] at hempty
      rw [acknowledge_of_covered covered]
      simp [LinkPort.packetsLeft, hempty]
    · rw [acknowledge_replayBuffer] at hheld
      rw [acknowledge_of_covered covered]
      exact if_neg hheld
    · rw [acknowledge_replayBuffer] at hheld
      rw [acknowledge_of_covered covered]
      simp [LinkPort.packetsLeft, hheld]

/-- Settles O14: out of window the NAK is ignored; in window it is the ACK, and then a replay by what is held and by
replayCount. -/
theorem hostNak : Obligations.HostNak := by
  intro s f p hs hf hup hrest hzero k
  have judged : exec (.hostNak f) s = .next (if s.link.inWindow p.seq then s.takeNak p.seq else s) := by
    rw [exec_hostNak_of_nak hs hf, judgeAck_of_wellFormed hup hrest hzero]
  refine ⟨fun hout => ?_, fun hwindow => ?_⟩
  · rw [judged, if_neg]
    exact Bool.not_eq_true _ ▸ decide_eq_false (not_le.mpr hout)
  have hin : s.link.inWindow p.seq = true := decide_eq_true hwindow
  rw [judged, if_pos hin]
  refine ⟨fun g q hg hseq hqrest hqzero => ?_, fun hempty => ?_, fun hheld hfew => ?_, fun hheld hmax => ?_⟩
  · rw [exec_hostAck_of_ack hs hg, judgeAck_of_wellFormed hup hqrest hqzero, hseq, if_pos hin]
    rfl
  · rw [takeNak_of_empty hempty]
    rfl
  · rw [takeNak_of_held hheld, startReplay_of_few (by exact hfew)]
    rfl
  · rw [takeNak_of_held hheld, startReplay_of_max (by exact hmax)]
    exact ⟨_, rfl, rfl, rfl⟩

end Sys2Proof.Proofs
end

section
/-! PROOFS. The timers (R131, R139, R144), RESET_N (R171), and when a control packet or a packet of a replay is the
arbiter's choice (R103, R140, R145). -/

namespace Sys2Proof.Machine

variable {s : State}

/-! ### Timers (R131, R139, R144) -/

/-- A timer that is stopped, or that runs in the other link state, does not expire (assumption 2). -/
theorem not_expires {x y : LinkState} {timer : Option Nat} (hxy : x ≠ y) (h : s.link.linkState = x ∨ timer = none) :
    ¬ (s.link.linkState = y ∧ timer.isSome = true) := by
  rintro ⟨hy, hruns⟩
  rcases h with hx | rfl
  · exact hxy (hx.symm.trans hy)
  · exact Bool.noConfusion hruns

/-- The replay timer that expires starts a replay (R144). -/
theorem exec_replayTimerExpiry_of_running (hs : s.resetHeld = false) (hup : s.link.linkState = .up)
    (hruns : s.link.replayTimer ≠ none) : exec .replayTimerExpiry s = .next s.startReplay :=
  (unlessHeld_of_high hs _).trans (if_pos ⟨hup, Option.isSome_iff_ne_none.mpr hruns⟩)

/-! ### RESET_N (R149, R171) -/

theorem exec_resetNAssert (s : State) : exec .resetNAssert s = .next { State.reset with
    pending := s.pending, pool := s.pool, resetHeld := true
    link := { LinkPort.reset with requestTimer := none } } := by
  show execResetNAssert s = _
  rfl

theorem exec_resetNRelease_of_held (h : s.resetHeld = true) : exec .resetNRelease s = .next { s with
    resetHeld := false
    link := { s.link with
      due := { s.link.due with syncRequest := true }, requestTimer := some (s.link.replayTimeout.toNat * 8) } } :=
  if_pos h

/-- While RESET_N is high its rise is no event (assumption 2). -/
theorem exec_resetNRelease_of_high (h : s.resetHeld = false) : exec .resetNRelease s = .next s :=
  if_neg (by rw [h]; exact Bool.false_ne_true)

/-! ### The choice (R103) -/

/-- A control packet due stands before every other candidate (R103). -/
theorem choice_of_due {c : Candidate} (hfree : s.transmitter = .free) (h : s.link.dueCandidate = some c) :
    s.choice = some c := by
  simp only [State.choice, hfree, h]

/-- With no control packet due, a replay in progress stands before new packets (R103, R145). -/
theorem choice_of_replay {p : SeqPacket} (hfree : s.transmitter = .free)
    (hdue : s.link.due = ⟨false, false, false, false⟩) (hreplay : s.link.replayInProgress = true)
    (hp : s.link.replayPacket = some p) : s.choice = some (.resend p) := by
  simp [State.choice, LinkPort.dueCandidate, hfree, hdue, hreplay, hp]

end Sys2Proof.Machine
end

section
/-! PROOFS. O5, O15, O16: RESET_N, SYNC and the timers. -/

namespace Sys2Proof.Proofs

open Sys2Proof.Machine

/-- Settles O5: the fall and the rise of RESET_N, each by itself; and the rise after the fall. -/
theorem resetNAssertAndRelease : Obligations.ResetNAssertAndRelease := by
  refine ⟨exec_resetNAssert, fun s => exec_resetNRelease_of_held, fun s => exec_resetNRelease_of_high,
    fun s t ht => ?_⟩
  rw [exec_resetNAssert] at ht
  cases ht
  exact exec_resetNRelease_of_held rfl

/-- Settles O15: the record a SYNC leaves is the same with a link reset before it and without. -/
theorem sync : Obligations.Sync := by
  intro s f p hs hf hrest hzero
  refine ⟨s.takeSync, exec_sync_of_wellFormed hs hf hrest hzero, ?_, rfl, fun hdown => ?_⟩
  · unfold State.takeSync
    dsimp only
    split <;> rfl
  · rw [State.takeSync, if_neg (by rw [hdown]; exact LinkState.noConfusion)]
    rfl

/-- Settles O16: each timer, running in its link state and stopped. -/
theorem timerExpiries : Obligations.TimerExpiries := by
  refine ⟨fun s hs => ⟨fun hup hruns hfew => ?_, fun hup hruns hmax => ⟨s.linkFailure, ?_, rfl⟩, fun hno => ?_⟩,
    fun s hs => ⟨fun hup hruns => ?_, fun hno => ?_, fun hdown hruns => ?_, fun hno => ?_⟩⟩
  · rw [exec_replayTimerExpiry_of_running hs hup hruns, startReplay_of_few hfew]
    rfl
  · rw [exec_replayTimerExpiry_of_running hs hup hruns, startReplay_of_max hmax]
  · exact (unlessHeld_of_high hs _).trans (if_neg (not_expires LinkState.noConfusion hno))
  · exact (unlessHeld_of_high hs _).trans (if_pos ⟨hup, Option.isSome_iff_ne_none.mpr hruns⟩)
  · exact (unlessHeld_of_high hs _).trans (if_neg (not_expires LinkState.noConfusion hno))
  · exact (unlessHeld_of_high hs _).trans (if_pos ⟨hdown, Option.isSome_iff_ne_none.mpr hruns⟩)
  · exact (unlessHeld_of_high hs _).trans (if_neg (not_expires LinkState.noConfusion hno))

end Sys2Proof.Proofs
end

section
/-! PROOFS. O41, O42: the control packets and the packets of a replay. -/

namespace Sys2Proof.Proofs

open Sys2Proof.Machine

/-- Settles O41: each control packet is the first one due, and so the choice. -/
theorem controlPacketsSent : Obligations.ControlPacketsSent := by
  refine fun s hs hfree => ⟨fun hsyncAck => ?_, fun hsyncAck hnak => ?_, fun hsyncAck hnak hack => ?_, fun hdue => ?_⟩
  · have first : s.link.dueCandidate = some .syncAck := by simp [LinkPort.dueCandidate, hsyncAck]
    exact onChoice_of_chosen hs (choice_of_due hfree first) rfl
  · have first : s.link.dueCandidate = some .nak := by simp [LinkPort.dueCandidate, hsyncAck, hnak]
    exact onChoice_of_chosen hs (choice_of_due hfree first) rfl
  · have first : s.link.dueCandidate = some .ack := by simp [LinkPort.dueCandidate, hsyncAck, hnak, hack]
    exact onChoice_of_chosen hs (choice_of_due hfree first) rfl
  · have first : s.link.dueCandidate = some .syncRequest := by simp [LinkPort.dueCandidate, hdue]
    have sent : exec .syncRequest s = .next s.sendSyncRequest :=
      onChoice_of_chosen hs (choice_of_due hfree first) rfl
    rw [sent, State.sendSyncRequest, hdue]
    rfl

/-- Settles O42: the packet numbered replayPointer is the choice, and the newest one ends the replay. -/
theorem packetResent : Obligations.PacketResent := by
  intro s p hs hfree hdue hreplay hbuf hp hseq
  have chosen := choice_of_replay hfree hdue hreplay (replayPacket_of_mem hbuf hp hseq)
  have sent : exec .resend s = .next (s.resendPacket p) := onChoice_of_chosen hs chosen rfl
  have goes_on : (!s.link.isNewest p) = decide (s.link.replayPointer + 1 ≠ s.link.outboundNext) := by
    rw [← hseq, decide_not, Bool.eq_iff_iff.mpr ((isNewest_iff hbuf hp).trans decide_eq_true_iff.symm)]
  rw [sent, State.resendPacket, goes_on]
  rfl

end Sys2Proof.Proofs
end

section
/-! PROOFS. The words of the packets the part sends (chapter 11.1), each as its fields side by side. -/

namespace Sys2Proof.Machine

/-- The header of a reply: its kind and sequence number, a status, a tag and a count. -/
theorem replyHeader_eq (kind : Nat) (n : SeqNum) (status : Nat) (tag : Byte) (count : Nat) :
    fieldAt 28 4 kind ||| fieldAt 21 7 n.toNat |||
        (fieldAt 16 4 status ||| fieldAt 8 8 tag.toNat ||| fieldAt 0 8 count) =
      BitVec.ofNat 4 kind ++ n ++ 0#1 ++ BitVec.ofNat 4 status ++ tag ++ BitVec.ofNat 8 count := by
  apply eq_of_hasField
  repeat' apply hasField_append
  all_goals simp (disch := omega) [HasField, BitVec.extractLsb'_or]

/-- The offset of a CFG-REPLY, and whether it is present. -/
theorem offsetWord_eq (offset : Option (BitVec 4)) :
    flagAt 31 offset.isSome ||| optAt 0 4 (offset.map BitVec.toNat) =
      (if offset = none then 0#1 else 1#1) ++ 0#27 ++ offset.getD 0 := by
  apply eq_of_hasField
  repeat' apply hasField_append
  all_goals cases offset <;> simp (disch := omega) [HasField, optAt, BitVec.extractLsb'_or]

/-- The header of an ATTN: its endpoint and repeats. -/
theorem attnHeader_eq (n : SeqNum) (e : Nat) (repeats : BitVec 8) :
    fieldAt 28 4 0xB ||| fieldAt 21 7 n.toNat ||| (fieldAt 8 4 e ||| fieldAt 0 8 repeats.toNat) =
      11#4 ++ n ++ 0#9 ++ BitVec.ofNat 4 e ++ repeats := by
  apply eq_of_hasField
  repeat' apply hasField_append
  all_goals simp (disch := omega) [HasField, BitVec.extractLsb'_or]

/-- The header of a NOTICE: its cause, more, and which optional fields are present. -/
theorem noticeHeader_eq (n : SeqNum) (x : Notice) :
    fieldAt 28 4 0xC ||| fieldAt 21 7 n.toNat ||| (fieldAt 18 2 x.cause.code ||| flagAt 17 x.more |||
        flagAt 16 x.endpoint.isSome ||| flagAt 15 x.tag.isSome ||| flagAt 14 x.status.isSome |||
        flagAt 13 x.beatsDone.isSome ||| flagAt 12 x.creditKind.isSome) =
      12#4 ++ n ++ 0#1 ++ BitVec.ofNat 2 x.cause.code ++ BitVec.ofBool x.more ++ BitVec.ofBool x.endpoint.isSome ++
        BitVec.ofBool x.tag.isSome ++ BitVec.ofBool x.status.isSome ++ BitVec.ofBool x.beatsDone.isSome ++
        BitVec.ofBool x.creditKind.isSome ++ 0#12 := by
  apply eq_of_hasField
  repeat' apply hasField_append
  all_goals simp (disch := omega) [HasField, BitVec.extractLsb'_or]

/-- An absent optional field is 0. -/
theorem getD_map_zero {α : Type} (x : Option α) (code : α → Nat) : (x.map code).getD 0 = x.elim 0 code := by
  cases x <;> rfl

/-- Word 1 of a NOTICE: its optional fields, 0 where one is absent. -/
theorem noticeWord_eq (x : Notice) :
    optAt 28 4 (x.endpoint.map Fin.val) ||| optAt 26 2 (x.creditKind.map CreditKind.code) |||
        optAt 20 4 (x.status.map MemStatus.code) ||| optAt 8 8 (x.tag.map BitVec.toNat) ||| optAt 0 8 x.beatsDone =
      BitVec.ofNat 4 (x.endpoint.elim 0 Fin.val) ++ BitVec.ofNat 2 (x.creditKind.elim 0 CreditKind.code) ++ 0#2 ++
        BitVec.ofNat 4 (x.status.elim 0 MemStatus.code) ++ 0#4 ++ x.tag.getD 0 ++
        BitVec.ofNat 8 (x.beatsDone.getD 0) := by
  simp only [← getD_map_zero]
  apply eq_of_hasField
  repeat' apply hasField_append
  all_goals simp (disch := omega) [HasField, optAt, BitVec.extractLsb'_or]

/-- The header of a control packet with next. -/
theorem nextHeader_eq (kind : Nat) (n : SeqNum) :
    fieldAt 28 4 kind ||| fieldAt 21 7 n.toNat = BitVec.ofNat 4 kind ++ n ++ 0#21 := by
  apply eq_of_hasField
  repeat' apply hasField_append
  all_goals simp (disch := omega) [HasField, BitVec.extractLsb'_or]

/-- The three totals of an ACK or a SYNC-ACK. -/
theorem totalsWord_eq (t : Totals) : t.word = 0#8 ++ t.req ++ t.data ++ t.mgmt := by
  apply eq_of_hasField
  repeat' apply hasField_append
  all_goals simp (disch := omega) [HasField, Totals.word, BitVec.extractLsb'_or]

/-- A SYNC-REQUEST: its cause. -/
theorem causeHeader_eq (code : Nat) :
    fieldAt 28 4 0xF ||| fieldAt 0 1 code = 15#4 ++ 0#27 ++ BitVec.ofNat 1 code := by
  apply eq_of_hasField
  repeat' apply hasField_append
  all_goals simp (disch := omega) [HasField, BitVec.extractLsb'_or]

end Sys2Proof.Machine
end

section
/-! PROOFS. O40: the packets as sent. -/

namespace Sys2Proof.Proofs

open Sys2Proof.Machine

/-- Settles O40: each packet's words by their layouts; the codes as listed. -/
theorem packetsAsSent : Obligations.PacketsAsSent := by
  refine ⟨fun n tag st beats _ => congrArg (· :: beats) (replyHeader_eq 5 n st.code tag beats.length),
    fun n tag st count _ => congrArg (fun header => [header]) (replyHeader_eq 6 n st.code tag count),
    fun n r _ => congrArg₂ (· :: · :: r.data) (replyHeader_eq 7 n r.status.code r.tag r.data.length)
      (offsetWord_eq r.offset),
    fun n e repeats => congrArg (fun header => [header]) (attnHeader_eq n e.val repeats),
    fun n x _ => congrArg₂ (fun header word1 => [header, word1]) (noticeHeader_eq n x) (noticeWord_eq x),
    fun n t => congrArg₂ (fun header word1 => [header, word1]) (nextHeader_eq 8 n) (totalsWord_eq t),
    fun n => congrArg (fun header => [header]) (nextHeader_eq 9 n),
    fun t => congrArg₂ (fun header word1 => [header, word1]) (by rfl) (totalsWord_eq t),
    fun c => congrArg (fun header => [header]) (causeHeader_eq c.code), rfl, rfl, rfl, rfl, rfl⟩

end Sys2Proof.Proofs
end

section
/-! PROOFS. Device reset (R170, R171): RESET_N low, the values after a reset, the laws then, and DEVICE-RESET. -/

namespace Sys2Proof.Machine

variable {s : State}

/-! ### While RESET_N is low (R171) -/

/-- While RESET_N is low no packet is chosen (R103, R171). -/
theorem onChoice_of_low (h : s.resetHeld = true) (act : Candidate → Option State) : onChoice s act = .next s :=
  unlessHeld_of_low h _

/-! ### The tables after a device reset (R1, R2, R19, R39, R45, R47, R50, R65, R115, R171) -/

theorem reset_windows (w : WindowId) : State.reset.windows[w] = .reset := by simp [State.reset]

theorem reset_staging (k : Fin 8) : State.reset.staging[k] = 0 := by simp [State.reset]

theorem reset_endpoints (e : EndpointId) : State.reset.endpoints[e] = .reset e := tabulate_get _ e

theorem reset_slots (i : SlotId) : State.reset.slots[i] = .reset := by simp [State.reset]

theorem reset_queues (e : EndpointId) : State.reset.queues[e] = [] := by simp [State.reset]

theorem reset_completions (e : EndpointId) : State.reset.completions[e] = [] := by simp [State.reset]

theorem reset_outstanding (e : EndpointId) : State.reset.outstanding e = 0 := by
  rw [State.outstanding, reset_queues, reset_completions]
  rfl

theorem mem_reset_freeBlocks (b : BlockId) : b ∈ State.reset.freeBlocks := List.mem_finRange b

theorem reset_engines (l : LaneId) : State.reset.engines[l] = .reset := by simp [State.reset]

theorem reset_attn (e : EndpointId) : State.reset.attn[e] = .idle := by simp [State.reset]

/-! ### The laws after a device reset -/

/-- After a device reset every law holds: the tables are empty and the link is DOWN (R171). -/
theorem deviceReset_law (s : State) : s.deviceReset.law := by
  obtain ⟨slot, queue⟩ := (deviceReset_vacant s).slotsLawful fun up => LinkState.noConfusion up
  exact ⟨windowLaw_deviceReset s, deviceReset_linkLaw s, deviceReset_laneLaw s, attnLaw_outlasts.reset s,
    noticeLaw_outlasts.reset s, managementLaw_outlasts.reset s, slot, queue⟩

/-! ### DEVICE-RESET (R170) -/

section

variable {r : CfgRequest} {rest : List CfgRequest} (hs : s.resetHeld = false) (hr : s.cfgHanded = r :: rest)
  (hc : r.Commands codeDeviceReset)

include hs hr hc

/-- From class PRIVILEGED the device resets at once, whether or not the reply list has a place. -/
theorem exec_deviceReset_of_privileged (hp : r.cls = .privileged) : exec .deviceReset s = .next s.deviceReset := by
  show unlessHeld s _ = _
  simp only [unlessHeld_of_high hs, hr, isCommand_of_commands hc, hp, reduceCtorEq, if_true, if_false]

/-- From class NORMAL the command is answered DENIED (R164). -/
theorem exec_deviceReset_of_normal (hn : r.cls = .normal) (hl : s.replies.length < Config.replyPlaces) :
    exec .deviceReset s = .next (s.afterReply r rest .denied (some 0) []) := by
  have place : s.replyPlace = true := decide_eq_true hl
  show unlessHeld s _ = _
  simp only [unlessHeld_of_high hs, hr, isCommand_of_commands hc, hn, place, if_true]
  rfl

end

end Sys2Proof.Machine
end

section
/-! PROOFS. O3, O4, O6, O55: device reset. -/

namespace Sys2Proof.Proofs

open Sys2Proof.Machine

/-- Settles O4: every command but RESET_N's own two is held back, those that send a packet at the arbiter's choice. -/
theorem nothingHappensWhileResetIsLow : Obligations.NothingHappensWhileResetIsLow := by
  intro c s hs hassert hrelease
  cases c with
  | resetNAssert => exact absurd rfl hassert
  | resetNRelease => exact absurd rfl hrelease
  | ack | nak | syncAck | syncRequest | resend | cfgReply | notice | attn | readData | writeDone =>
    exact onChoice_of_low hs _
  | badPacket | sequencedPacket | hostAck | hostNak | sync | memRead | memWrite | cfgRead | cfgWrite
  | attentionAcknowledge | commitWindow | clearWindow | fetchWindow | enableEndpoint | disableEndpoint | abortEndpoint
  | resumeEndpoint | clearCounters | deviceReset | unknownCommand | transmissionEnd | replayTimerExpiry
  | refreshTimerExpiry | requestTimerExpiry | grant | readySeen | readyTimeout | phaseEnd | wordComplete | release
  | gapEnd | attentionSample =>
    exact unlessHeld_of_low hs _

/-- Settles O3: each table place by place, every other field as it stands in the reset state. -/
theorem resetValues : Obligations.ResetValues :=
  ⟨rfl, reset_windows, reset_staging, fun e => ⟨.reset e, reset_endpoints e, rfl, rfl⟩, reset_slots,
    fun e => ⟨reset_queues e, reset_completions e, reset_outstanding e⟩, rfl, mem_reset_freeBlocks,
    fun l => ⟨.reset, reset_engines l⟩, reset_attn, rfl, rfl, rfl, rfl, rfl, rfl, rfl, rfl, ⟨.reset, rfl⟩, rfl⟩

/-- Settles O6: one outcome for each class of the request. -/
theorem deviceResetCommand : Obligations.DeviceResetCommand := fun _ _ _ hs hr hc =>
  ⟨exec_deviceReset_of_privileged hs hr hc, exec_deviceReset_of_normal hs hr hc⟩

/-- Settles O55: the reset state is what a device reset leaves of itself. -/
theorem lawsHoldAtReset : Obligations.LawsHoldAtReset := deviceReset_law State.reset

end Sys2Proof.Proofs
end

section
/-! PROOFS. CFG_READ (R163) and CLEAR-COUNTERS (R169). -/

namespace Sys2Proof.Machine

variable {s : State} {r : CfgRequest} {rest : List CfgRequest}

/-! ### CFG_READ (R163) -/

/-- A read that covers no word past the end is served with the words as they stand (R163). -/
theorem readAct_of_inside (h : r.start.toNat + r.length.toNat - 1 ≤ Config.lastManagementWord) (u : State) :
    readAct r u =
      (⟨r.tag, .ok, none, (List.range r.length.toNat).map fun k => u.readWord (r.start.toNat + k)⟩, u) :=
  if_neg (by simpa [pastEnd] using h)

/-- A read past the end of management space is refused with RANGE, at its first word past the end (R163). -/
theorem readAct_of_pastEnd (h : Config.lastManagementWord < r.start.toNat + r.length.toNat - 1) (u : State) :
    readAct r u = (plainReply r .range (1024 - r.start.toNat), u) :=
  if_pos (decide_eq_true h)

/-- No management word shows the CFG requests handed on. -/
theorem readWord_cfgHanded (s : State) (l : List CfgRequest) (i : Nat) :
    ({ s with cfgHanded := l } : State).readWord i = s.readWord i := by
  simp only [State.readWord, State.acknowledgeWordRead, State.descriptorWord, State.outstanding, State.slotViewWord,
    State.collectionOf]

/-- A CFG-READ taken whose act changes nothing: its reply joins the list (R162). -/
theorem exec_cfgRead_of_taken {x : CfgStatus} {offset : Option (BitVec 4)} {data : List Word} (ht : s.TakesCfg r rest)
    (hd : r.direction = .read)
    (hact : readAct r { s with cfgHanded := rest } = (⟨r.tag, x, offset, data⟩, { s with cfgHanded := rest })) :
    exec .cfgRead s = .next (s.afterReply r rest x offset data) := by
  obtain ⟨hs, hr, hl⟩ := ht
  show unlessHeld s _ = _
  rw [unlessHeld_of_high hs, takeCfg_of_taken hr (decide_eq_true hd) hl, hact]
  rfl

/-! ### CLEAR-COUNTERS (R169) -/

/-- CLEAR-COUNTERS taken: the index is not read (R169). -/
theorem exec_clearCounters_of_taken (ht : s.TakesCfg r rest) (hc : r.Commands codeClearCounters)
    (hp : r.cls = .privileged) : exec .clearCounters s = .next { s.afterCommand r rest .ok with
      link := { s.link with counters := .zero }
      endpoints := tabulate fun e => { s.endpoints[e] with transactionsDone := 0 } } :=
  takeCommand_of_commands (perform := fun _ t => (.ok, clearCounters t)) ht hc hp rfl

end Sys2Proof.Machine
end

section
/-! PROOFS. O24, O39: CFG_READ and CLEAR-COUNTERS. -/

namespace Sys2Proof.Proofs

open Sys2Proof.Machine

/-- Settles O24: the two acts of a read, split at the last word of management space. -/
theorem cfgRead : Obligations.CfgRead := by
  intro s r rest ht hd
  refine ⟨fun hin => exec_cfgRead_of_taken ht hd ?_, fun hpast => exec_cfgRead_of_taken ht hd ?_⟩
  · simp only [readAct_of_inside hin, readWord_cfgHanded]
  · exact readAct_of_pastEnd hpast _

/-- Settles O39: the descriptors as they are tabulated, each with its count at 0. -/
theorem clearCounters : Obligations.ClearCounters := fun _ _ _ ht hc hp =>
  ⟨_, exec_clearCounters_of_taken ht hc hp, tabulate_get _⟩

end Sys2Proof.Proofs
end

section
/-! PROOFS. The queue of commands that wait, through every command (assumption 9): the shared operations leave it, so each
command's act does, and so does every command. -/

namespace Sys2Proof.Machine

/-! ### The shared operations -/

section

variable (s : State)

@[simp] theorem grantCredits_pending (a b c : Nat) : (s.grantCredits a b c).pending = s.pending := by
  rw [grantCredits_frame]

@[simp] theorem addNotice_pending (n : Notice) : (s.addNotice n).pending = s.pending := by
  rw [addNotice_frame]

@[simp] theorem noteMalformed_pending : s.noteMalformed.pending = s.pending :=
  addNotice_pending _ _

@[simp] theorem endSlot_pending (e : EndpointId) (i : SlotId) (x : MemStatus) :
    (s.endSlot e i x).pending = s.pending := by
  rw [endSlot_frame]

@[simp] theorem stopEndpoint_pending (e : EndpointId) : (s.stopEndpoint e).pending = s.pending := by
  rw [stopEndpoint_frame]

@[simp] theorem drainIfEmpty_pending (e : EndpointId) : (s.drainIfEmpty e).pending = s.pending := by
  rcases drainIfEmpty_cases s e with ⟨-, -, h⟩ | ⟨-, h⟩ <;> rw [h]
  rfl

@[simp] theorem judgeLevel_pending (e : EndpointId) : (s.judgeLevel e).pending = s.pending := by
  rcases judgeLevel_cases s e with ⟨-, -, -, h⟩ | h <;> rw [h]
  rfl

@[simp] theorem startReplay_pending : s.startReplay.pending = s.pending := by
  rcases startReplay_cases s with ⟨-, h⟩ | ⟨-, h⟩ <;> rw [h] <;> rfl

/-- Whatever a released engine reports, the queue stays: the ends of slots and of endpoints leave it (R78). -/
@[simp] theorem report_pending (g : Engine) : (s.report g).pending = s.pending := by
  unfold State.report
  split
  · rfl
  split
  · unfold State.reportUncut
    dsimp only
    split
    · rfl
    · split <;> simp
  · exact stopEndpoint_pending ..
  · unfold State.reportLinkCut
    split <;> simp

@[simp] theorem finishTransaction_pending (l : LaneId) : (s.finishTransaction l).pending = s.pending :=
  report_pending _ _

@[simp] theorem cutByAbort_pending (l : LaneId) : (s.cutByAbort l).pending = s.pending := by
  unfold State.cutByAbort
  dsimp only
  split
  · rfl
  · split <;> simp

end

variable {s : State}

/-! ### The acts of the Management Unit (R162 to R170) -/

/-- An act on a request, or a command performed, that leaves the queue. -/
def ActLeavesQueue {α β : Type} (act : α → State → β × State) : Prop := ∀ r u, (act r u).2.pending = u.pending

theorem readAct_leavesQueue : ActLeavesQueue readAct := by
  intro r u
  unfold readAct
  split <;> rfl

theorem writeWord_pending (u : State) (i : Nat) (v : Word) : (u.writeWord i v).pending = u.pending := by
  unfold State.writeWord
  dsimp only
  split_ifs <;> simp

theorem writeWords_pending (u : State) (i : Nat) (vs : List Word) : (writeWords u i vs).pending = u.pending := by
  induction vs generalizing u i with
  | nil => rfl
  | cons v vs ih => rw [writeWords, ih, writeWord_pending]

theorem writeAct_leavesQueue : ActLeavesQueue writeAct := by
  intro r u
  unfold writeAct
  split_ifs
  · rfl
  · rfl
  · split
    · rfl
    · exact writeWords_pending ..

theorem acknowledgeAct_leavesQueue : ActLeavesQueue acknowledgeAct := by
  intro r u
  unfold acknowledgeAct
  split <;> rfl

theorem commandAct_leavesQueue {perform : Byte → State → CfgStatus × State} (h : ActLeavesQueue perform) :
    ActLeavesQueue (commandAct perform) := by
  intro r u
  unfold commandAct
  split
  · rfl
  · exact h r.commandIndex u

theorem onWindow_leavesQueue {f : WindowId → State → CfgStatus × State} (h : ActLeavesQueue f) :
    ActLeavesQueue (onWindow f) := fun index _ =>
  onWindow_keeps (P := fun t => t.pending = _) (fun w u hu => (h w u).trans hu) index rfl

theorem onEndpoint_leavesQueue {f : EndpointId → State → CfgStatus × State} (h : ActLeavesQueue f) :
    ActLeavesQueue (onEndpoint f) := fun index _ =>
  onEndpoint_keeps (P := fun t => t.pending = _) (fun e u hu => (h e u).trans hu) index rfl

theorem commitWindow_leavesQueue : ActLeavesQueue commitWindow := by
  intro w u
  rcases commitWindow_cases w u with ⟨-, h⟩ | ⟨kind, e, -, h⟩ <;> rw [h]
  split <;> rfl

theorem enableEndpoint_leavesQueue : ActLeavesQueue enableEndpoint := by
  intro e u
  unfold enableEndpoint
  dsimp only
  split
  · split_ifs <;> simp
  all_goals rfl

theorem disableEndpoint_leavesQueue : ActLeavesQueue disableEndpoint := by
  intro e u
  unfold disableEndpoint
  split
  · split <;> rfl
  · rfl
  · exact stopEndpoint_pending u e
  all_goals rfl

theorem abortEndpoint_leavesQueue : ActLeavesQueue abortEndpoint := by
  intro e u
  have inside : (abortInside e u).pending = u.pending := cutByAbort_pending ..
  unfold abortEndpoint
  split
  · split <;> simp [inside]
  · split <;> simp [inside]
  · exact stopEndpoint_pending u e
  all_goals rfl

theorem resumeEndpoint_leavesQueue : ActLeavesQueue resumeEndpoint := by
  intro e u
  unfold resumeEndpoint
  dsimp only
  split <;> simp

/-! ### Commands -/

/-- A command leaves the queue as it is in `s`. -/
def LeavesQueue (s : State) (r : Result) : Prop := Leads r fun t => t.pending = s.pending

/-- Taking a CFG request and replying to it leaves the queue when the act does (R162). -/
theorem takeCfg_leavesQueue {p : CfgRequest → Bool} {act : CfgRequest → State → CfgReply × State}
    (h : ActLeavesQueue act) : LeavesQueue s (unlessHeld s (takeCfg s p act)) :=
  leads_unlessHeld rfl (leads_takeCfg rfl (fun r u hu => (h r u).trans hu) (fun _ _ hu => hu) fun _ _ hu => hu)

/-- Performing a command of the command word leaves the queue when the command does (R168). -/
theorem takeCommand_leavesQueue {code : Byte} {perform : Byte → State → CfgStatus × State}
    (h : ActLeavesQueue perform) : LeavesQueue s (unlessHeld s (takeCommand s code perform)) :=
  takeCfg_leavesQueue (commandAct_leavesQueue h)

theorem takeMem_leavesQueue (d : Direction) : LeavesQueue s (takeMem d s) := by
  intro t ht
  rcases takeMem_cases ht with rfl | ⟨m, rest, -, -, hreq⟩
  · rfl
  obtain ⟨i, -, ⟨w, -, hacc⟩ | ⟨x, w, -, rfl⟩⟩ := takeRequest_cases hreq
  · unfold accept at hacc
    dsimp only at hacc
    split at hacc
    · cases hacc
    · exact Host.Outcome.next.inj hacc ▸ rfl
  · unfold refuse refusePosted refuseNonPosted
    split
    · split <;> simp
    all_goals simp

theorem execDeviceReset_leavesQueue : LeavesQueue s (execDeviceReset s) := by
  refine leads_unlessHeld rfl ?_
  split
  · exact leads_next.mpr rfl
  split_ifs
  · exact leads_next.mpr rfl
  · exact leads_fault _
  · exact leads_next.mpr rfl
  · exact leads_next.mpr rfl

theorem acceptPacket_pending (p : HostPacket) : (s.acceptPacket p).pending = s.pending := by
  unfold State.acceptPacket
  dsimp only
  split
  · exact noteMalformed_pending _
  next r _ =>
  rcases creditCheck_cases (s.setLink s.link.accept) r with ⟨kind, tag, h⟩ | ⟨m, -, -, -, h⟩ | ⟨c, -, -, h⟩ <;> rw [h]
  · rw [overrun_frame]
    rfl
  · rfl
  · rfl

theorem judgeSequence_pending (p : HostPacket) : (s.judgeSequence p).pending = s.pending := by
  unfold State.judgeSequence
  dsimp only
  split_ifs
  · exact acceptPacket_pending p
  all_goals rfl

theorem takeNak_pending (n : SeqNum) : (s.takeNak n).pending = s.pending := by
  unfold State.takeNak
  dsimp only
  split <;> simp

theorem takeSync_pending : s.takeSync.pending = s.pending := by
  unfold State.takeSync
  dsimp only
  split <;> rfl

/-- Whatever packet is sent, the queue stays (R103, R105). -/
theorem afterSending_pending (x : Candidate) : (s.afterSending x).pending = s.pending := by
  cases x with
  | syncAck | nak | ack | syncRequest | resend | notice | attn => rfl
  | cfgReply r => rw [State.afterSending, sendCfgReply_eq, grantCredits_pending]
  | immediate i => rw [State.afterSending, sendImmediate_eq, grantCredits_pending]
  | completion e i => rw [State.afterSending, sendCompletion_eq, grantCredits_pending]

theorem execGrant_leavesQueue (l : LaneId) : LeavesQueue s (execGrant l s) := by
  refine leads_unlessHeld rfl ?_
  split
  · exact leads_next.mpr rfl
  split
  · exact leads_next.mpr rfl
  split
  · exact leads_next.mpr rfl
  split <;> exact leads_next.mpr rfl

theorem execReadyTimeout_leavesQueue (l : LaneId) : LeavesQueue s (execReadyTimeout l s) := by
  refine leads_unlessHeld rfl ?_
  split
  · dsimp only
    split
    · exact leads_next.mpr rfl
    · split <;> simp
  all_goals exact leads_next.mpr rfl

/-- Every command leaves the queue of commands that wait (assumption 9). -/
theorem exec_leavesQueue (c : Instr) (s : State) : LeavesQueue s (exec c s) := by
  cases c with
  | sequencedPacket f =>
    refine leads_unlessHeld rfl ?_
    split
    · split
      · exact leads_next.mpr (judgeSequence_pending _)
      · exact leads_next.mpr rfl
    · exact leads_next.mpr rfl
  | hostAck f =>
    refine leads_unlessHeld rfl ?_
    split
    · split_ifs
      · exact leads_next.mpr rfl
      · exact leads_next.mpr (noteMalformed_pending s)
      · exact leads_next.mpr rfl
      · exact leads_next.mpr rfl
    · exact leads_next.mpr rfl
  | hostNak f =>
    refine leads_unlessHeld rfl ?_
    split
    · split_ifs
      · exact leads_next.mpr rfl
      · exact leads_next.mpr (noteMalformed_pending s)
      · exact leads_next.mpr (takeNak_pending _)
      · exact leads_next.mpr rfl
    · exact leads_next.mpr rfl
  | sync f =>
    refine leads_unlessHeld rfl ?_
    split
    · split
      · exact leads_next.mpr takeSync_pending
      · exact leads_next.mpr (noteMalformed_pending s)
    · exact leads_next.mpr rfl
  | memRead | memWrite => exact leads_unlessHeld rfl (takeMem_leavesQueue _)
  | cfgRead => exact takeCfg_leavesQueue readAct_leavesQueue
  | cfgWrite => exact takeCfg_leavesQueue writeAct_leavesQueue
  | attentionAcknowledge => exact takeCfg_leavesQueue acknowledgeAct_leavesQueue
  | commitWindow => exact takeCommand_leavesQueue (onWindow_leavesQueue commitWindow_leavesQueue)
  | clearWindow => exact takeCommand_leavesQueue (onWindow_leavesQueue fun _ _ => rfl)
  | fetchWindow => exact takeCommand_leavesQueue (onWindow_leavesQueue fun _ _ => rfl)
  | enableEndpoint => exact takeCommand_leavesQueue (onEndpoint_leavesQueue enableEndpoint_leavesQueue)
  | disableEndpoint => exact takeCommand_leavesQueue (onEndpoint_leavesQueue disableEndpoint_leavesQueue)
  | abortEndpoint => exact takeCommand_leavesQueue (onEndpoint_leavesQueue abortEndpoint_leavesQueue)
  | resumeEndpoint => exact takeCommand_leavesQueue (onEndpoint_leavesQueue resumeEndpoint_leavesQueue)
  | clearCounters => exact takeCommand_leavesQueue fun _ _ => rfl
  | unknownCommand => exact takeCfg_leavesQueue (commandAct_leavesQueue fun _ _ => rfl)
  | deviceReset => exact execDeviceReset_leavesQueue
  | ack | nak | syncAck | syncRequest | resend | cfgReply | notice | attn | readData | writeDone =>
    intro t ht
    rcases exec_packetCommand_cases (by simp [packetCommands]) ht with rfl | ⟨x, -, -, rfl⟩
    · rfl
    · exact afterSending_pending x
  | replayTimerExpiry =>
    refine leads_unlessHeld rfl ?_
    split
    · exact leads_next.mpr (startReplay_pending s)
    · exact leads_next.mpr rfl
  | transmissionEnd | attentionSample => exact leads_unlessHeld rfl (leads_next.mpr rfl)
  | grant l => exact execGrant_leavesQueue l
  | badPacket | refreshTimerExpiry | requestTimerExpiry | readySeen | gapEnd =>
    exact leads_unlessHeld rfl (by split <;> exact leads_next.mpr rfl)
  | readyTimeout l => exact execReadyTimeout_leavesQueue l
  | phaseEnd l =>
    intro t ht
    rcases execPhaseEnd_cases ht with rfl | ⟨g, -, -, -, rfl⟩ <;> rfl
  | wordComplete l din =>
    intro t ht
    rcases execWordComplete_cases ht with rfl | ⟨j, g, -, -, -, rfl⟩
    · rfl
    · rw [wordDone_frame]
      rfl
  | release l =>
    refine leads_unlessHeld rfl ?_
    split
    · exact leads_next.mpr (finishTransaction_pending s l)
    · exact leads_next.mpr rfl
  | resetNAssert => exact leads_next.mpr rfl
  | resetNRelease =>
    show LeavesQueue s (execResetNRelease s)
    unfold execResetNRelease
    split <;> exact leads_next.mpr rfl

/-! ### The step -/

/-- With a command at the front, a step is that command on the state with the queue's rest. -/
theorem step_of_front {c : Instr} {rest : List Instr} (h : s.pending = c :: rest) :
    step s = exec c { s with pending := rest } := by
  unfold step
  rw [h]

/-- With no command waiting, a step idles (assumption 8). -/
theorem step_of_empty (h : s.pending = []) : step s = .next s := by
  unfold step
  rw [h]

end Sys2Proof.Machine
end

section
/-! PROOFS. O1, O2: the step and the queue of commands that wait. -/

namespace Sys2Proof.Proofs

open Sys2Proof.Machine

/-- Settles O1: the two forms of the queue. -/
theorem stepRunsTheFrontCommand : Obligations.StepRunsTheFrontCommand :=
  ⟨fun _ _ _ => step_of_front rfl, fun _ => step_of_empty⟩

/-- Settles O2: command by command. -/
theorem commandsLeaveTheQueue : Obligations.CommandsLeaveTheQueue := exec_leavesQueue

end Sys2Proof.Proofs
end
